-- ==== Sys2Proof/Word.lean ====
section
/-! DEFINITION. The word types of the block and the one shift notation of the spec (00_scope.md R8, R9). -/

namespace Sys2Proof

/-- A byte of wave memory or of the register space. -/
abbrev Byte := BitVec 8

/-- A 16-bit channel or common register (10_state.md R20). -/
abbrev Half := BitVec 16

/-- The 32-bit data operand of a host operation (30_encoding.md R106). -/
abbrev Word := BitVec 32

/-- A channel number, 0 to 63 (00_scope.md R7; the six bits of MSLC and of an offset's channel field). -/
abbrev Chan := BitVec 6

end Sys2Proof
end

