-- ==== Sys2Proof/Config.lean ====
section
/-! DEFINITION. What a configuration of the block fixes: the six toggles of 10_state.md R27 and the two switches that
00_scope.md R7 lists as parameters with a truth value. The numeric parameters and tables stand in Machine/Tables.lean.
There is no free value: no rule of the spec leaves a result open (93_implementation_defined.md, "The block has no `any value`
item either"). -/

namespace Sys2Proof

/-- The configuration, "read-only to the block" (10_state.md R27). It is carried in the machine's state so that every
setting can be spoken of; no operation writes it (notes/assumptions/12.md). -/
structure Toggles where
  /-- `HACK_MIX`: the spec defines no behaviour for it (42_envelope.md R193). -/
  hackMix : Bool
  /-- `HACK_D1D2`: a Decay1 step that meets a zero threshold goes back to Attack (42_envelope.md R192). -/
  hackD1D2 : Bool
  /-- `AUDIO_OUT_OFF`: frames are not delivered to the sink (44_channel_mix.md R270). -/
  audioOutOff : Bool
  /-- `NO_BATCH`: no effect (44_channel_mix.md R270). -/
  noBatch : Bool
  /-- `CD_MUTE`: skips the CD injection (44_channel_mix.md R265, R270). -/
  cdMute : Bool
  /-- `DSP_ENABLE`: no effect, the DSP being a stub (44_channel_mix.md R270). -/
  dspEnable : Bool
  /-- `ADPCM_LOOP_RESET`: the one-shot ADPCM format resets its decoder at a loop wrap (41_stream.md R155). -/
  adpcmLoopReset : Bool
  /-- `LFO_WRITE_RELOADS`: every write of the LFO register reloads the counter (43_lfo.md R229). -/
  lfoWriteReloads : Bool
deriving DecidableEq, Repr

/-- The core model's configuration: every toggle false (10_state.md R27), both switches at their default true
(41_stream.md R155, 43_lfo.md R229). -/
def Toggles.core : Toggles :=
  { hackMix := false, hackD1D2 := false, audioOutOff := false, noBatch := false, cdMute := false, dspEnable := false,
    adpcmLoopReset := true, lfoWriteReloads := true }

end Sys2Proof
end

