-- ==== Sys2Proof/Syntax.lean ====
section
/-! DEFINITION. The instructions: one constructor for each row of spec/opcode_table.json, in the table's order, with the formats
their words come in (30_encoding.md R101, R106; the table's "format" column). -/

namespace Sys2Proof

/-- The access widths 1, 2 and 4 bytes, size codes 00, 01, 10 (30_encoding.md R106). -/
inductive Size
  | b1 | b2 | b4
deriving DecidableEq, Repr

/-- The formats of the opcode table's words. The bits of a word do not tell its format (30_encoding.md R102: "nothing in the data
marks it"), so whoever hands a word over says which it is. -/
inductive WordFormat
  /-- A 4-bit ADPCM code (R101), the low nibble of one byte. -/
  | adpcm4
  /-- A 52-bit host operation (R106), seven bytes. -/
  | hostop52
  /-- A slot 0 register value (R81, R103), two bytes: its format code. -/
  | slot0Reg16
  /-- A slot 7 register value (R88, R104), two bytes: its amplitude waveform code. -/
  | slot7Reg16
  /-- A status register value (R99, R105), two bytes: its state code. -/
  | statusReg16
deriving DecidableEq, Repr

/-- Why bytes are not a word of their format. -/
inductive DecodeError
  /-- The number of bytes is not the format's. Safe: nothing runs. -/
  | length
  /-- A bit above the format's width is set (bits 7:4 of an adpcm4 byte, bits 55:52 of a hostop52 word). Safe: nothing runs. -/
  | strayBits
deriving DecidableEq, Repr

/-- The instructions, one constructor per row of the opcode table. -/
inductive Instr
  /-- `ADPCM_0`. ADPCM code 0x0 (40_adpcm.md R130). -/
  | adpcm0
  /-- `ADPCM_1`. ADPCM code 0x1 (40_adpcm.md R131). -/
  | adpcm1
  /-- `ADPCM_2`. ADPCM code 0x2 (40_adpcm.md R132). -/
  | adpcm2
  /-- `ADPCM_3`. ADPCM code 0x3 (40_adpcm.md R133). -/
  | adpcm3
  /-- `ADPCM_4`. ADPCM code 0x4 (40_adpcm.md R134). -/
  | adpcm4
  /-- `ADPCM_5`. ADPCM code 0x5 (40_adpcm.md R135). -/
  | adpcm5
  /-- `ADPCM_6`. ADPCM code 0x6 (40_adpcm.md R136). -/
  | adpcm6
  /-- `ADPCM_7`. ADPCM code 0x7 (40_adpcm.md R137). -/
  | adpcm7
  /-- `ADPCM_8`. ADPCM code 0x8 (40_adpcm.md R138). -/
  | adpcm8
  /-- `ADPCM_9`. ADPCM code 0x9 (40_adpcm.md R139). -/
  | adpcm9
  /-- `ADPCM_A`. ADPCM code 0xa (40_adpcm.md R140). -/
  | adpcmA
  /-- `ADPCM_B`. ADPCM code 0xb (40_adpcm.md R141). -/
  | adpcmB
  /-- `ADPCM_C`. ADPCM code 0xc (40_adpcm.md R142). -/
  | adpcmC
  /-- `ADPCM_D`. ADPCM code 0xd (40_adpcm.md R143). -/
  | adpcmD
  /-- `ADPCM_E`. ADPCM code 0xe (40_adpcm.md R144). -/
  | adpcmE
  /-- `ADPCM_F`. ADPCM code 0xf (40_adpcm.md R145). -/
  | adpcmF
  /-- `TICK`. One output frame (45_register_interface.md R303). The CD pair is an input of the step, not a field (30_encoding.md R106). -/
  | tick
  /-- `READ`. READ of `z` at offset `a` (45_register_interface.md R297): the row for the offsets that no register row describes. -/
  | read (z : Size) (a : Half)
  /-- `WRITE`. WRITE of `d` at offset `a` (45_register_interface.md R291): the row for the offsets that no register row describes. -/
  | write (z : Size) (a : Half) (d : Word)
  /-- `RESERVED_OP`. Operation kind code 11 (45_register_interface.md R302). -/
  | reservedOp
  /-- `READ_BADSIZE`. READ with size code 11 (45_register_interface.md R302). -/
  | readBadsize
  /-- `WRITE_BADSIZE`. WRITE with size code 11 (45_register_interface.md R302). -/
  | writeBadsize
  /-- `WRITE_CH_SLOT0_KYONB_SSCTL_LPCTL_PCMS_SA_HI`. WRITE at byte `b` of channel `c`'s slot 0: KYONEX, KYONB, SSCTL, LPCTL, PCMS, SA[22:16] (30_encoding.md R81). -/
  | writeChSlot0 (z : Size) (c : Chan) (b : BitVec 2) (d : Word)
  /-- `READ_CH_SLOT0_KYONB_SSCTL_LPCTL_PCMS_SA_HI`. READ at byte `b` of channel `c`'s slot 0: KYONEX, KYONB, SSCTL, LPCTL, PCMS, SA[22:16] (30_encoding.md R81). -/
  | readChSlot0 (z : Size) (c : Chan) (b : BitVec 2)
  /-- `WRITE_CH_SLOT1_SA_LO`. WRITE at byte `b` of channel `c`'s slot 1: SA[15:0] (30_encoding.md R82). -/
  | writeChSlot1 (z : Size) (c : Chan) (b : BitVec 2) (d : Word)
  /-- `READ_CH_SLOT1_SA_LO`. READ at byte `b` of channel `c`'s slot 1: SA[15:0] (30_encoding.md R82). -/
  | readChSlot1 (z : Size) (c : Chan) (b : BitVec 2)
  /-- `WRITE_CH_SLOT2_LSA`. WRITE at byte `b` of channel `c`'s slot 2: LSA (30_encoding.md R83). -/
  | writeChSlot2 (z : Size) (c : Chan) (b : BitVec 2) (d : Word)
  /-- `READ_CH_SLOT2_LSA`. READ at byte `b` of channel `c`'s slot 2: LSA (30_encoding.md R83). -/
  | readChSlot2 (z : Size) (c : Chan) (b : BitVec 2)
  /-- `WRITE_CH_SLOT3_LEA`. WRITE at byte `b` of channel `c`'s slot 3: LEA (30_encoding.md R84). -/
  | writeChSlot3 (z : Size) (c : Chan) (b : BitVec 2) (d : Word)
  /-- `READ_CH_SLOT3_LEA`. READ at byte `b` of channel `c`'s slot 3: LEA (30_encoding.md R84). -/
  | readChSlot3 (z : Size) (c : Chan) (b : BitVec 2)
  /-- `WRITE_CH_SLOT4_D2R_D1R_AR`. WRITE at byte `b` of channel `c`'s slot 4: D2R, D1R, AR (30_encoding.md R85). -/
  | writeChSlot4 (z : Size) (c : Chan) (b : BitVec 2) (d : Word)
  /-- `READ_CH_SLOT4_D2R_D1R_AR`. READ at byte `b` of channel `c`'s slot 4: D2R, D1R, AR (30_encoding.md R85). -/
  | readChSlot4 (z : Size) (c : Chan) (b : BitVec 2)
  /-- `WRITE_CH_SLOT5_LPSLNK_KRS_DL_RR`. WRITE at byte `b` of channel `c`'s slot 5: LPSLNK, KRS, DL, RR (30_encoding.md R86). -/
  | writeChSlot5 (z : Size) (c : Chan) (b : BitVec 2) (d : Word)
  /-- `READ_CH_SLOT5_LPSLNK_KRS_DL_RR`. READ at byte `b` of channel `c`'s slot 5: LPSLNK, KRS, DL, RR (30_encoding.md R86). -/
  | readChSlot5 (z : Size) (c : Chan) (b : BitVec 2)
  /-- `WRITE_CH_SLOT6_OCT_FNS`. WRITE at byte `b` of channel `c`'s slot 6: OCT, FNS (30_encoding.md R87). -/
  | writeChSlot6 (z : Size) (c : Chan) (b : BitVec 2) (d : Word)
  /-- `READ_CH_SLOT6_OCT_FNS`. READ at byte `b` of channel `c`'s slot 6: OCT, FNS (30_encoding.md R87). -/
  | readChSlot6 (z : Size) (c : Chan) (b : BitVec 2)
  /-- `WRITE_CH_SLOT7_LFO`. WRITE at byte `b` of channel `c`'s slot 7: LFORE, LFOF, PLFOWS, PLFOS, ALFOWS, ALFOS (30_encoding.md R88). -/
  | writeChSlot7 (z : Size) (c : Chan) (b : BitVec 2) (d : Word)
  /-- `READ_CH_SLOT7_LFO`. READ at byte `b` of channel `c`'s slot 7: LFORE, LFOF, PLFOWS, PLFOS, ALFOWS, ALFOS (30_encoding.md R88). -/
  | readChSlot7 (z : Size) (c : Chan) (b : BitVec 2)
  /-- `WRITE_CH_SLOT8_IMXL_ISEL`. WRITE at byte `b` of channel `c`'s slot 8: IMXL, ISEL (30_encoding.md R89). -/
  | writeChSlot8 (z : Size) (c : Chan) (b : BitVec 2) (d : Word)
  /-- `READ_CH_SLOT8_IMXL_ISEL`. READ at byte `b` of channel `c`'s slot 8: IMXL, ISEL (30_encoding.md R89). -/
  | readChSlot8 (z : Size) (c : Chan) (b : BitVec 2)
  /-- `WRITE_CH_SLOT9_DISDL_DIPAN`. WRITE at byte `b` of channel `c`'s slot 9: DISDL, DIPAN (30_encoding.md R90). -/
  | writeChSlot9 (z : Size) (c : Chan) (b : BitVec 2) (d : Word)
  /-- `READ_CH_SLOT9_DISDL_DIPAN`. READ at byte `b` of channel `c`'s slot 9: DISDL, DIPAN (30_encoding.md R90). -/
  | readChSlot9 (z : Size) (c : Chan) (b : BitVec 2)
  /-- `WRITE_CH_SLOT10_TL_VOFF_LPOFF_Q`. WRITE at byte `b` of channel `c`'s slot 10: TL, VOFF, LPOFF, Q (30_encoding.md R91). -/
  | writeChSlot10 (z : Size) (c : Chan) (b : BitVec 2) (d : Word)
  /-- `READ_CH_SLOT10_TL_VOFF_LPOFF_Q`. READ at byte `b` of channel `c`'s slot 10: TL, VOFF, LPOFF, Q (30_encoding.md R91). -/
  | readChSlot10 (z : Size) (c : Chan) (b : BitVec 2)
  /-- `WRITE_CH_SLOT11_FLV0`. WRITE at byte `b` of channel `c`'s slot 11: FLV0 (30_encoding.md R92). -/
  | writeChSlot11 (z : Size) (c : Chan) (b : BitVec 2) (d : Word)
  /-- `READ_CH_SLOT11_FLV0`. READ at byte `b` of channel `c`'s slot 11: FLV0 (30_encoding.md R92). -/
  | readChSlot11 (z : Size) (c : Chan) (b : BitVec 2)
  /-- `WRITE_CH_SLOT12_FLV1`. WRITE at byte `b` of channel `c`'s slot 12: FLV1 (30_encoding.md R93). -/
  | writeChSlot12 (z : Size) (c : Chan) (b : BitVec 2) (d : Word)
  /-- `READ_CH_SLOT12_FLV1`. READ at byte `b` of channel `c`'s slot 12: FLV1 (30_encoding.md R93). -/
  | readChSlot12 (z : Size) (c : Chan) (b : BitVec 2)
  /-- `WRITE_CH_SLOT13_FLV2`. WRITE at byte `b` of channel `c`'s slot 13: FLV2 (30_encoding.md R94). -/
  | writeChSlot13 (z : Size) (c : Chan) (b : BitVec 2) (d : Word)
  /-- `READ_CH_SLOT13_FLV2`. READ at byte `b` of channel `c`'s slot 13: FLV2 (30_encoding.md R94). -/
  | readChSlot13 (z : Size) (c : Chan) (b : BitVec 2)
  /-- `WRITE_CH_SLOT14_FLV3`. WRITE at byte `b` of channel `c`'s slot 14: FLV3 (30_encoding.md R95). -/
  | writeChSlot14 (z : Size) (c : Chan) (b : BitVec 2) (d : Word)
  /-- `READ_CH_SLOT14_FLV3`. READ at byte `b` of channel `c`'s slot 14: FLV3 (30_encoding.md R95). -/
  | readChSlot14 (z : Size) (c : Chan) (b : BitVec 2)
  /-- `WRITE_CH_SLOT15_FLV4`. WRITE at byte `b` of channel `c`'s slot 15: FLV4 (30_encoding.md R96). -/
  | writeChSlot15 (z : Size) (c : Chan) (b : BitVec 2) (d : Word)
  /-- `READ_CH_SLOT15_FLV4`. READ at byte `b` of channel `c`'s slot 15: FLV4 (30_encoding.md R96). -/
  | readChSlot15 (z : Size) (c : Chan) (b : BitVec 2)
  /-- `WRITE_CH_SLOT16_FAR_FD1R`. WRITE at byte `b` of channel `c`'s slot 16: FAR, FD1R (30_encoding.md R97). -/
  | writeChSlot16 (z : Size) (c : Chan) (b : BitVec 2) (d : Word)
  /-- `READ_CH_SLOT16_FAR_FD1R`. READ at byte `b` of channel `c`'s slot 16: FAR, FD1R (30_encoding.md R97). -/
  | readChSlot16 (z : Size) (c : Chan) (b : BitVec 2)
  /-- `WRITE_CH_SLOT17_FD2R_FRR`. WRITE at byte `b` of channel `c`'s slot 17: FD2R, FRR (30_encoding.md R98). -/
  | writeChSlot17 (z : Size) (c : Chan) (b : BitVec 2) (d : Word)
  /-- `READ_CH_SLOT17_FD2R_FRR`. READ at byte `b` of channel `c`'s slot 17: FD2R, FRR (30_encoding.md R98). -/
  | readChSlot17 (z : Size) (c : Chan) (b : BitVec 2)
  /-- `WRITE_CH_RESERVED_SLOTS_18_19`. WRITE at byte `b` of channel `c`'s reserved slot `k`, 18 to 19 (30_encoding.md R107). -/
  | writeChReserved18 (z : Size) (c : Chan) (k : BitVec 5) (b : BitVec 2) (d : Word)
  /-- `READ_CH_RESERVED_SLOTS_18_19`. READ at byte `b` of channel `c`'s reserved slot `k`, 18 to 19 (30_encoding.md R107). -/
  | readChReserved18 (z : Size) (c : Chan) (k : BitVec 5) (b : BitVec 2)
  /-- `WRITE_CH_RESERVED_SLOTS_20_23`. WRITE at byte `b` of channel `c`'s reserved slot `k`, 20 to 23 (30_encoding.md R107). -/
  | writeChReserved20 (z : Size) (c : Chan) (k : BitVec 5) (b : BitVec 2) (d : Word)
  /-- `READ_CH_RESERVED_SLOTS_20_23`. READ at byte `b` of channel `c`'s reserved slot `k`, 20 to 23 (30_encoding.md R107). -/
  | readChReserved20 (z : Size) (c : Chan) (k : BitVec 5) (b : BitVec 2)
  /-- `WRITE_CH_RESERVED_SLOTS_24_31`. WRITE at byte `b` of channel `c`'s reserved slot `k`, 24 to 31 (30_encoding.md R107). -/
  | writeChReserved24 (z : Size) (c : Chan) (k : BitVec 5) (b : BitVec 2) (d : Word)
  /-- `READ_CH_RESERVED_SLOTS_24_31`. READ at byte `b` of channel `c`'s reserved slot `k`, 24 to 31 (30_encoding.md R107). -/
  | readChReserved24 (z : Size) (c : Chan) (k : BitVec 5) (b : BitVec 2)
  /-- `WRITE_KYONEX_W16`. The 16-bit WRITE that stores 1 into KYONEX of channel `c`'s slot 0 (45_register_interface.md R294). -/
  | writeKyonexW16 (c : Chan) (d : Word)
  /-- `WRITE_KYONEX_W32`. The 32-bit WRITE that stores 1 into KYONEX of channel `c`'s slot 0 (45_register_interface.md R294). -/
  | writeKyonexW32 (c : Chan) (d : Word)
  /-- `WRITE_KYONEX_W8`. The 8-bit WRITE that stores 1 into KYONEX of channel `c`'s slot 0 (45_register_interface.md R294). -/
  | writeKyonexW8 (c : Chan) (d : Word)
  /-- `WRITE_LFORE_W16`. The 16-bit WRITE that stores 1 into LFORE of channel `c`'s slot 7 (43_lfo.md R230). -/
  | writeLforeW16 (c : Chan) (d : Word)
  /-- `WRITE_LFORE_W32`. The 32-bit WRITE that stores 1 into LFORE of channel `c`'s slot 7 (43_lfo.md R230). -/
  | writeLforeW32 (c : Chan) (d : Word)
  /-- `WRITE_LFORE_W8`. The 8-bit WRITE that stores 1 into LFORE of channel `c`'s slot 7 (43_lfo.md R230). -/
  | writeLforeW8 (c : Chan) (d : Word)
  /-- `WRITE_EFSDL_EFPAN_DSP_0_15`. WRITE of EFSDL[k], EFPAN[k], k = 0..15, which only the out-of-scope DSP uses (30_encoding.md R99, R107). -/
  | writeEfsDsp (z : Size) (k : BitVec 4) (b : BitVec 2) (d : Word)
  /-- `READ_EFSDL_EFPAN_DSP_0_15`. READ of EFSDL[k], EFPAN[k], k = 0..15 (30_encoding.md R99). -/
  | readEfsDsp (z : Size) (k : BitVec 4) (b : BitVec 2)
  /-- `WRITE_EFSDL_EFPAN_CD_16_17`. WRITE of EFSDL, EFPAN of the CD input 16 + `k` (44_channel_mix.md R265). -/
  | writeEfsCd (z : Size) (k : BitVec 1) (b : BitVec 2) (d : Word)
  /-- `READ_EFSDL_EFPAN_CD_16_17`. READ of EFSDL, EFPAN of the CD input 16 + `k` (30_encoding.md R99). -/
  | readEfsCd (z : Size) (k : BitVec 1) (b : BitVec 2)
  /-- `WRITE_MONO_DAC18B_MVOL`. WRITE at byte `b` of 0x2800: MONO, MEM8MB, DAC18B, VER, MVOL (30_encoding.md R99). -/
  | writeMvol (z : Size) (b : BitVec 2) (d : Word)
  /-- `READ_MONO_DAC18B_MVOL`. READ at byte `b` of 0x2800: MONO, MEM8MB, DAC18B, VER, MVOL (30_encoding.md R99). -/
  | readMvol (z : Size) (b : BitVec 2)
  /-- `WRITE_AFSET_MSLC`. WRITE at byte `b` of 0x280C: AFSET, MSLC (30_encoding.md R99). -/
  | writeMslc (z : Size) (b : BitVec 2) (d : Word)
  /-- `READ_AFSET_MSLC`. READ at byte `b` of 0x280C: AFSET, MSLC (30_encoding.md R99). -/
  | readMslc (z : Size) (b : BitVec 2)
  /-- `WRITE_STATUS`. WRITE at byte `b` of 0x2810: the status register (LP, SGC, EG) (30_encoding.md R99). Accepted and ignored (45_register_interface.md R304). -/
  | writeStatus (z : Size) (b : BitVec 2) (d : Word)
  /-- `READ_STATUS`. READ at byte `b` of 0x2810: the status register (LP, SGC, EG) (30_encoding.md R99). All such READs but those of `readStatusClearing`. -/
  | readStatus (z : Size) (b : BitVec 2)
  /-- `WRITE_CA`. WRITE at byte `b` of 0x2814: the current-play-address register (30_encoding.md R99). Accepted and ignored (45_register_interface.md R304). -/
  | writeCa (z : Size) (b : BitVec 2) (d : Word)
  /-- `READ_CA`. READ at byte `b` of 0x2814: the current-play-address register (30_encoding.md R99). -/
  | readCa (z : Size) (b : BitVec 2)
  /-- `READ_STATUS_CLEARING`. The 2- or 4-byte READ at 0x2810, which clears the looped flag (45_register_interface.md R299). -/
  | readStatusClearing (z : Size)
  /-- `FMT_PCM16`. The fetch that the format code PCM16 selects (41_stream.md R160). -/
  | fmtPcm16
  /-- `FMT_PCM8`. The fetch that the format code PCM8 selects (41_stream.md R161). -/
  | fmtPcm8
  /-- `FMT_ADPCM`. The fetch that the format code ADPCM selects (41_stream.md R162). -/
  | fmtAdpcm
  /-- `FMT_ADPCM_STREAM`. The fetch that the format code ADPCM_STREAM selects (41_stream.md R163). -/
  | fmtAdpcmStream
  /-- `FMT_NOISE`. The fetch that the format code NOISE selects (41_stream.md R164). -/
  | fmtNoise
  /-- `LFO_SAW`. The waveform that the LFO code selects (43_lfo.md R223, R227, R228). -/
  | lfoSaw
  /-- `LFO_SQUARE`. The waveform that the LFO code selects (43_lfo.md R224, R227, R228). -/
  | lfoSquare
  /-- `LFO_TRIANGLE`. The waveform that the LFO code selects (43_lfo.md R225, R227, R228). -/
  | lfoTriangle
  /-- `LFO_NOISE`. The waveform that the LFO code selects (43_lfo.md R226, R227, R228). -/
  | lfoNoise
  /-- `SGC_ATTACK`. The envelope step of the state code ATTACK (42_envelope.md R186). -/
  | sgcAttack
  /-- `SGC_DECAY1`. The envelope step of the state code DECAY1 (42_envelope.md R187). -/
  | sgcDecay1
  /-- `SGC_DECAY2`. The envelope step of the state code DECAY2 (42_envelope.md R188). -/
  | sgcDecay2
  /-- `SGC_RELEASE`. The envelope step of the state code RELEASE (42_envelope.md R189). -/
  | sgcRelease
deriving DecidableEq, Repr

/-- The number of bytes of a size (30_encoding.md R106). -/
def Size.bytes : Size → Nat
  | .b1 => 1
  | .b2 => 2
  | .b4 => 4

/-- The format of the words that stand for an instruction (the table's "format" column). -/
def Instr.format : Instr → WordFormat
  | .adpcm0 => .adpcm4
  | .adpcm1 => .adpcm4
  | .adpcm2 => .adpcm4
  | .adpcm3 => .adpcm4
  | .adpcm4 => .adpcm4
  | .adpcm5 => .adpcm4
  | .adpcm6 => .adpcm4
  | .adpcm7 => .adpcm4
  | .adpcm8 => .adpcm4
  | .adpcm9 => .adpcm4
  | .adpcmA => .adpcm4
  | .adpcmB => .adpcm4
  | .adpcmC => .adpcm4
  | .adpcmD => .adpcm4
  | .adpcmE => .adpcm4
  | .adpcmF => .adpcm4
  | .tick => .hostop52
  | .read _ _ => .hostop52
  | .write _ _ _ => .hostop52
  | .reservedOp => .hostop52
  | .readBadsize => .hostop52
  | .writeBadsize => .hostop52
  | .writeChSlot0 _ _ _ _ => .hostop52
  | .readChSlot0 _ _ _ => .hostop52
  | .writeChSlot1 _ _ _ _ => .hostop52
  | .readChSlot1 _ _ _ => .hostop52
  | .writeChSlot2 _ _ _ _ => .hostop52
  | .readChSlot2 _ _ _ => .hostop52
  | .writeChSlot3 _ _ _ _ => .hostop52
  | .readChSlot3 _ _ _ => .hostop52
  | .writeChSlot4 _ _ _ _ => .hostop52
  | .readChSlot4 _ _ _ => .hostop52
  | .writeChSlot5 _ _ _ _ => .hostop52
  | .readChSlot5 _ _ _ => .hostop52
  | .writeChSlot6 _ _ _ _ => .hostop52
  | .readChSlot6 _ _ _ => .hostop52
  | .writeChSlot7 _ _ _ _ => .hostop52
  | .readChSlot7 _ _ _ => .hostop52
  | .writeChSlot8 _ _ _ _ => .hostop52
  | .readChSlot8 _ _ _ => .hostop52
  | .writeChSlot9 _ _ _ _ => .hostop52
  | .readChSlot9 _ _ _ => .hostop52
  | .writeChSlot10 _ _ _ _ => .hostop52
  | .readChSlot10 _ _ _ => .hostop52
  | .writeChSlot11 _ _ _ _ => .hostop52
  | .readChSlot11 _ _ _ => .hostop52
  | .writeChSlot12 _ _ _ _ => .hostop52
  | .readChSlot12 _ _ _ => .hostop52
  | .writeChSlot13 _ _ _ _ => .hostop52
  | .readChSlot13 _ _ _ => .hostop52
  | .writeChSlot14 _ _ _ _ => .hostop52
  | .readChSlot14 _ _ _ => .hostop52
  | .writeChSlot15 _ _ _ _ => .hostop52
  | .readChSlot15 _ _ _ => .hostop52
  | .writeChSlot16 _ _ _ _ => .hostop52
  | .readChSlot16 _ _ _ => .hostop52
  | .writeChSlot17 _ _ _ _ => .hostop52
  | .readChSlot17 _ _ _ => .hostop52
  | .writeChReserved18 _ _ _ _ _ => .hostop52
  | .readChReserved18 _ _ _ _ => .hostop52
  | .writeChReserved20 _ _ _ _ _ => .hostop52
  | .readChReserved20 _ _ _ _ => .hostop52
  | .writeChReserved24 _ _ _ _ _ => .hostop52
  | .readChReserved24 _ _ _ _ => .hostop52
  | .writeKyonexW16 _ _ => .hostop52
  | .writeKyonexW32 _ _ => .hostop52
  | .writeKyonexW8 _ _ => .hostop52
  | .writeLforeW16 _ _ => .hostop52
  | .writeLforeW32 _ _ => .hostop52
  | .writeLforeW8 _ _ => .hostop52
  | .writeEfsDsp _ _ _ _ => .hostop52
  | .readEfsDsp _ _ _ => .hostop52
  | .writeEfsCd _ _ _ _ => .hostop52
  | .readEfsCd _ _ _ => .hostop52
  | .writeMvol _ _ _ => .hostop52
  | .readMvol _ _ => .hostop52
  | .writeMslc _ _ _ => .hostop52
  | .readMslc _ _ => .hostop52
  | .writeStatus _ _ _ => .hostop52
  | .readStatus _ _ => .hostop52
  | .writeCa _ _ _ => .hostop52
  | .readCa _ _ => .hostop52
  | .readStatusClearing _ => .hostop52
  | .fmtPcm16 => .slot0Reg16
  | .fmtPcm8 => .slot0Reg16
  | .fmtAdpcm => .slot0Reg16
  | .fmtAdpcmStream => .slot0Reg16
  | .fmtNoise => .slot0Reg16
  | .lfoSaw => .slot7Reg16
  | .lfoSquare => .slot7Reg16
  | .lfoTriangle => .slot7Reg16
  | .lfoNoise => .slot7Reg16
  | .sgcAttack => .statusReg16
  | .sgcDecay1 => .statusReg16
  | .sgcDecay2 => .statusReg16
  | .sgcRelease => .statusReg16

/-- The number of bytes that carry a word of a format. -/
def WordFormat.bytes : WordFormat → Nat
  | .adpcm4 => 1
  | .hostop52 => 7
  | .slot0Reg16 => 2
  | .slot7Reg16 => 2
  | .statusReg16 => 2

end Sys2Proof
end

