-- ==== Sys2Proof/Machine/State.lean ====
section
/-! DEFINITION. The state of the machine: the register space, wave memory, the 64 channels' dynamic state (10_state.md R20 to R23,
R36), the configuration (R27), the operations the host has issued, and the results it gets. Plain data. -/

namespace Sys2Proof.Machine

/-- Bytes by address: strictly rising addresses, no entry equal to what an unlisted address reads as (`Memory.wf`). -/
abbrev Memory := List Host.Cell

/-- The states of an envelope (10_state.md R23). -/
inductive EgState
  | attack | decay1 | decay2 | release
deriving DecidableEq, Repr

/-- The sample formats (30_encoding.md R103). -/
inductive SampleFormat
  | pcm16 | pcm8 | adpcm | adpcmStream | noise
deriving DecidableEq, Repr

/-- A channel's dynamic state (10_state.md R23). The bounds that the types do not carry (`aegFp`, `ca`, `s0`, `s1`, `q`,
`lfoCounter`) are part of `State.Inv` in Sys2Proof/Safety.lean. -/
structure Channel where
  /-- The channel is stepped by TICK. -/
  enabled : Bool
  /-- The state of the amplitude envelope. -/
  aegState : EgState
  /-- The envelope value shifted up by `AEG_STEP_BITS`, at most 1023·2^16. -/
  aegFp : Nat
  /-- The state of the filter envelope, which nothing reads. -/
  fegState : EgState
  /-- The current sample address, at most 0xFFFF. -/
  ca : Nat
  /-- The fraction of the 22.10 position. -/
  frac : BitVec 10
  /-- The most recent sample, also the ADPCM decoder's previous sample (R24), an s16. -/
  s0 : Int
  /-- The interpolation target, an s16. -/
  s1 : Int
  /-- The loop end has been reached since the last clearing read. -/
  looped : Bool
  /-- The ADPCM quantizer step, in [0x7F, 0x6000]. -/
  q : Nat
  /-- The noise generator's state. -/
  noise : BitVec 32
  /-- The LFO's down-counter, in [1, 1020]. -/
  lfoCounter : Nat
  /-- The LFO's phase. -/
  lfoPhase : BitVec 8
  /-- The cached amplitude-LFO output. -/
  alfo : BitVec 8
  /-- The cached pitch-LFO output. -/
  plfo : BitVec 8
deriving DecidableEq, Repr

/-- A TICK's sums and its result: left, right and the 16 auxiliary buses (44_channel_mix.md R250, R269). -/
structure Frame where
  l : Int
  r : Int
  aux : Vector Int 16
deriving DecidableEq, Repr

/-- The LFO's two outputs (43_lfo.md R227, R228). -/
inductive LfoOutput
  | amplitude | pitch
deriving DecidableEq, Repr

/-- What an operation is given beside its word. A TICK reads the CD pair (30_encoding.md R106); the rows of a channel read the
rest (notes/assumptions/7.md). -/
structure Inputs where
  /-- The CD-audio input, left (s16), 0 when absent. -/
  cdL : BitVec 16
  /-- The CD-audio input, right (s16), 0 when absent. -/
  cdR : BitVec 16
  /-- The channel being processed (00_scope.md R10). -/
  channel : Chan
  /-- The argument `a` of a fetch (41_stream.md R159). -/
  addr : Nat
  /-- The argument `last` of a fetch (41_stream.md R159). -/
  last : Bool
  /-- An ADPCM decode fills the lookahead slot and does not commit (40_adpcm.md R127). -/
  lookahead : Bool
  /-- The output a waveform is computed for (43_lfo.md R227, R228). -/
  lfoOut : LfoOutput
deriving DecidableEq, Repr

/-- No CD input, channel 0, the key-on initial fetch's arguments, a committed decode, the amplitude output. -/
def Inputs.none : Inputs :=
  { cdL := 0, cdR := 0, channel := 0, addr := 0, last := true, lookahead := false, lfoOut := .amplitude }

/-- What the host queues for the block (notes/assumptions/1.md). -/
inductive Request
  /-- An operation: its word's bytes, in their format, with its inputs. -/
  | op (format : WordFormat) (bytes : List Byte) (inp : Inputs)
  /-- The host writes a byte of wave memory (20_memory.md R60, R62). -/
  | poke (a : Nat) (v : Byte)
deriving DecidableEq, Repr

/-- The machine. -/
structure State where
  /-- The register space, byte by byte (10_state.md R20 to R22). -/
  regs : Memory
  /-- Wave memory (20_memory.md R60). -/
  wave : Memory
  /-- The channels' dynamic state (10_state.md R23). -/
  chans : Vector Channel 64
  /-- The configuration (10_state.md R27), which no operation writes. -/
  cfg : Toggles
  /-- Whether the channel's rows may be issued on their own, the model's own setting (notes/assumptions/6.md). It is false for the
  block of the spec, whose step has three operations (45_register_interface.md R290), and no step sets it. -/
  bench : Bool
  /-- The operations issued and not yet performed, the next one first (20_memory.md R69). -/
  inbox : List Request
  /-- The inputs of the operation being performed. -/
  inp : Inputs
  /-- The value that the last completed READ returned (45_register_interface.md R297). -/
  readData : Word
  /-- The result of the last TICK (44_channel_mix.md R269). -/
  frame : Frame
  /-- The frames delivered to the output sink, newest first (44_channel_mix.md R269, R270). -/
  sink : List Frame
deriving DecidableEq, Repr

/-- Why the machine faults. There is no constructor: "The block raises no exceptions" (60_exceptions.md R330) and no item of the
spec is treated as `fault` or `stuck` (93_implementation_defined.md). Safe: nothing the spec lets run is stopped by a fault. -/
inductive Fault
deriving DecidableEq, Repr

/-- Why an operation has no successor state (60_exceptions.md R332). -/
inductive Refusal
  /-- The instruction has no meaning in this model. Raised by exec's arms only; no arm does. Safe. -/
  | notModelled (mnemonic : String)
  /-- Operation kind code 11 or size code 11 (R332). Raised by RESERVED_OP, READ_BADSIZE and WRITE_BADSIZE. Safe. -/
  | badOp
  /-- A 2-byte access at an odd offset or a 4-byte access not at a slot (R332). Raised by READs and WRITEs. Safe. -/
  | misaligned
  /-- An access to a register slot outside the map (R332). Raised by READs and WRITEs. Safe. -/
  | unmapped
  /-- The configuration sets HACK_MIX, which the spec does not define (R332). Raised by the step. Safe. -/
  | hackMixUndefined
  /-- The bytes of a request are not a word of its format. Raised by the step. The model's own. Safe. -/
  | badWord (e : DecodeError)
  /-- A request is neither TICK, READ, WRITE nor a write of wave memory: a channel's row issued on its own where `bench` is false
  (45_register_interface.md R290). Raised by the step. The model's own. Safe. -/
  | notHostOperation
  /-- The host writes past the end of wave memory. Raised by the step. The model's own. Safe. -/
  | waveOutOfRange
deriving DecidableEq, Repr

/-- A channel at power-on: the reset column of 10_state.md R23. -/
def Channel.reset : Channel :=
  { enabled := false, aegState := .release, aegFp := 1023 * 2 ^ 16, fegState := .release, ca := 0, frac := 0, s0 := 0, s1 := 0,
    looped := false, q := 0x7F, noise := 0, lfoCounter := 1020, lfoPhase := 0, alfo := 0, plfo := 0 }

/-- The frame (0, 0) with all auxiliary sums 0. -/
def Frame.zero : Frame := { l := 0, r := 0, aux := Vector.replicate 16 0 }

/-- Power-on (10_state.md R36, 70_reset_and_hazards.md R360): every byte of the register space 0, every channel as
`Channel.reset`, the core configuration. Wave memory lists nothing (notes/assumptions/10.md); no operation has been issued and
no result given (notes/assumptions/1.md, 7.md, 14.md); the step has the three operations of the block only
(notes/assumptions/6.md). -/
def State.reset : State :=
  { regs := [], wave := [], chans := Vector.replicate 64 Channel.reset, cfg := Toggles.core, bench := false, inbox := [], inp := Inputs.none,
    readData := 0, frame := Frame.zero, sink := [] }

end Sys2Proof.Machine
end

