-- ==== Sys2Proof/Machine/Arith.lean ====
section
/-! DEFINITION. The arithmetic helpers of 00_scope.md R8 to R10. -/

namespace Sys2Proof.Machine

/-- `v >> n`: "equal to floor(v / 2^n) for every integer v" (00_scope.md R9). -/
def asr (v : Int) (n : Nat) : Int := v / 2 ^ n

/-- `clamp(v, lo, hi) = min(max(v, lo), hi)` (00_scope.md R10). -/
def clamp (v lo hi : Int) : Int := min (max v lo) hi

/-- `clip16(v) = clamp(v, -32768, 32767)` (00_scope.md R10). -/
def clip16 (v : Int) : Int := clamp v (-32768) 32767

/-- `v[hi:lo]` of a 16-bit register, `n` bits from bit `lo` up (30_encoding.md R80). -/
def regField (r : Half) (lo n : Nat) : BitVec n := r.extractLsb' lo n

/-- Byte `i` of a data operand, `(d >> (8*i)) & 0xFF` (45_register_interface.md R291). -/
def dataByte (d : Word) (i : Nat) : Byte := d.extractLsb' (8 * i) 8

end Sys2Proof.Machine
end

