-- ==== Sys2Proof/Machine/Tables.lean ====
section
/-! DEFINITION. The parameters of 00_scope.md R7 at the values the spec gives them, and the immutable tables of 10_state.md R26
(notes/assumptions/13.md). -/

namespace Sys2Proof.Machine

/-- `NCH`, the channel count (00_scope.md R7). -/
def nch : Nat := 64

/-- `AEG_STEP_BITS`, B (42_envelope.md R181). -/
def aegStepBits : Nat := 16

/-- 1023·2^B, the silent end of the envelope (42_envelope.md R188 to R190). -/
def aegMax : Nat := 1023 * 2 ^ aegStepBits

/-- `AEG_KEYON_VALUE` (42_envelope.md R191). -/
def aegKeyonValue : Nat := 0x3FF

/-- `ARAM_SIZE`, the bytes of wave memory (20_memory.md R60). -/
def aramSize : Nat := 0x200000

/-- `ADPCM_Q_RESET` (40_adpcm.md R126). -/
def adpcmQReset : Nat := 0x7F

/-- `ADPCM_QS[m]` in units of 1/256 (40_adpcm.md R121). -/
def adpcmQs (m : Nat) : Nat := [230, 230, 230, 230, 307, 409, 512, 614].getD m 0

/-- `NOISE_NEXT(x) = (x * 16807 + 0xBEEF) mod 2^32` (41_stream.md R164). -/
def noiseNext (x : BitVec 32) : BitVec 32 := x * 16807 + 0xBEEF

/-- `NOISE_SAMPLE(x) = sext_16(x >> 16)` (41_stream.md R164). -/
def noiseSample (x : BitVec 32) : Int := (x.extractLsb' 16 16).toInt

/-- `AR_TIMES_MS` in hundredths of a millisecond, none where the value never moves (42_envelope.md R183). -/
def arTimes : List (Option Nat) :=
    [none, none, some 810000, some 690000, some 600000, some 480000, some 400000, some 340000] ++
    [some 300000, some 240000, some 200000, some 170000, some 150000, some 120000, some 100000, some 86000] ++
    [some 76000, some 60000, some 50000, some 43000, some 38000, some 30000, some 25000, some 22000] ++
    [some 19000, some 15000, some 13000, some 11000, some 9500, some 7600, some 6300, some 5500] ++
    [some 4700, some 3800, some 3100, some 2700, some 2400, some 1900, some 1500, some 1300] ++
    [some 1200, some 940, some 790, some 680, some 600, some 470, some 380, some 340] ++
    [some 300, some 240, some 200, some 180, some 160, some 130, some 110, some 93] ++
    [some 85, some 65, some 53, some 44, some 40, some 35, some 0, some 0]

/-- `DR_TIMES_MS` in hundredths of a millisecond, none where the value never moves (42_envelope.md R183). -/
def drTimes : List (Option Nat) :=
    [none, none, some 11820000, some 10130000, some 8860000, some 7090000, some 5910000, some 5070000] ++
    [some 4430000, some 3550000, some 2960000, some 2530000, some 2220000, some 1770000, some 1480000, some 1270000] ++
    [some 1110000, some 890000, some 740000, some 630000, some 550000, some 440000, some 370000, some 320000] ++
    [some 280000, some 220000, some 180000, some 160000, some 140000, some 110000, some 92000, some 79000] ++
    [some 69000, some 55000, some 46000, some 39000, some 34000, some 27000, some 23000, some 20000] ++
    [some 17000, some 14000, some 11000, some 9800, some 8500, some 6800, some 5700, some 4900] ++
    [some 4300, some 3400, some 2800, some 2500, some 2200, some 1800, some 1400, some 1200] ++
    [some 1100, some 850, some 710, some 610, some 540, some 430, some 360, some 310]

/-- `AEG_ATT_STEP`, normative as integers (42_envelope.md R184). -/
def aegAttSteps : List Nat :=
    [0, 0, 188, 221, 254, 317, 380, 448] ++
    [507, 634, 761, 895, 1014, 1268, 1522, 1769] ++
    [2002, 2536, 3043, 3539, 4005, 5072, 6087, 6917] ++
    [8009, 10145, 11706, 13834, 16018, 20023, 24155, 27668] ++
    [32378, 40046, 49088, 56361, 63406, 80092, 101450, 117057] ++
    [126812, 161888, 192626, 223786, 253624, 323775, 400459, 447571] ++
    [507248, 634060, 760871, 845413, 951089, 1170571, 1383403, 1636283] ++
    [1790286, 2341143, 2871213, 3458507, 3804357, 4347837, 67108863, 67108863]

/-- `AEG_DSR_STEP`, normative as integers (42_envelope.md R184). -/
def aegDsrSteps : List Nat :=
    [0, 0, 13, 15, 17, 21, 26, 30] ++
    [34, 43, 51, 60, 69, 86, 103, 120] ++
    [137, 171, 206, 242, 277, 346, 411, 476] ++
    [543, 692, 845, 951, 1087, 1383, 1654, 1926] ++
    [2205, 2767, 3308, 3902, 4476, 5636, 6616, 7609] ++
    [8951, 10870, 13834, 15528, 17903, 22379, 26697, 31056] ++
    [35389, 44757, 54348, 60870, 69170, 84541, 108696, 126812] ++
    [138340, 179029, 214330, 249466, 281804, 353894, 422706, 490885]

/-- `AEG_ATT_STEP[r]`. -/
def aegAttStep (r : Nat) : Nat := aegAttSteps.getD r 0

/-- `AEG_DSR_STEP[r]`. -/
def aegDsrStep (r : Nat) : Nat := aegDsrSteps.getD r 0

/-- `LFO_START(N)` (43_lfo.md R220). -/
def lfoStart (n : BitVec 5) : Nat :=
  let s := n.toNat >>> 2
  let m := (~~~n &&& 3).toNat
  let g := 128 >>> s
  let l := (g - 1) <<< 2
  l + g * (m + 1)

/-- `ATT_LEN` (44_channel_mix.md R251). -/
def attLen : Nat := 1024

/-- `ATT_MUTE` (44_channel_mix.md R254). -/
def attMute : Nat := 0x1FF

/-- The entries 0 to 255 of `ATT_LUT` (44_channel_mix.md R252). -/
def attRows : List Nat :=
    [32768, 31378, 30048, 28774, 27554, 26386, 25267, 24196, 23170, 22188, 21247, 20346, 19483, 18657, 17866, 17109] ++
    [16384, 15689, 15024, 14387, 13777, 13193, 12633, 12098, 11585, 11094, 10623, 10173, 9741, 9328, 8933, 8554] ++
    [8192, 7844, 7512, 7193, 6888, 6596, 6316, 6049, 5792, 5547, 5311, 5086, 4870, 4664, 4466, 4277] ++
    [4096, 3922, 3756, 3596, 3444, 3298, 3158, 3024, 2896, 2773, 2655, 2543, 2435, 2332, 2233, 2138] ++
    [2048, 1961, 1878, 1798, 1722, 1649, 1579, 1512, 1448, 1386, 1327, 1271, 1217, 1166, 1116, 1069] ++
    [1024, 980, 939, 899, 861, 824, 789, 756, 724, 693, 663, 635, 608, 583, 558, 534] ++
    [512, 490, 469, 449, 430, 412, 394, 378, 362, 346, 331, 317, 304, 291, 279, 267] ++
    [256, 245, 234, 224, 215, 206, 197, 189, 181, 173, 165, 158, 152, 145, 139, 133] ++
    [128, 122, 117, 112, 107, 103, 98, 94, 90, 86, 82, 79, 76, 72, 69, 66] ++
    [64, 61, 58, 56, 53, 51, 49, 47, 45, 43, 41, 39, 38, 36, 34, 33] ++
    [32, 30, 29, 28, 26, 25, 24, 23, 22, 21, 20, 19, 19, 18, 17, 16] ++
    [16, 15, 14, 14, 13, 12, 12, 11, 11, 10, 10, 9, 9, 9, 8, 8] ++
    [8, 7, 7, 7, 6, 6, 6, 5, 5, 5, 5, 4, 4, 4, 4, 4] ++
    [4, 3, 3, 3, 3, 3, 3, 2, 2, 2, 2, 2, 2, 2, 2, 2] ++
    [2, 1, 1, 1, 1, 1, 1, 1, 1, 1, 1, 1, 1, 1, 1, 1] ++
    [1, 0, 0, 0, 0, 0, 0, 0, 0, 0, 0, 0, 0, 0, 0, 0]

/-- `ATT_LUT[i]`, 0 for every index from 255 on (44_channel_mix.md R251, R252). -/
def attLut (i : Nat) : Nat := attRows.getD i 0

/-- `MVOL_LUT[m]` (44_channel_mix.md R253). -/
def mvolLut (m : BitVec 4) : Nat :=
  [0, 256, 362, 512, 724, 1024, 1448, 2048, 2896, 4096, 5792, 8192, 11585, 16384, 23170, 32768].getD m.toNat 0

/-- `SEND_ATT(n)` (44_channel_mix.md R254). -/
def sendAtt (n : BitVec 4) : Nat := if n = 0 then attMute else (15 - n.toNat) * 8

/-- `PAN_ATT(p)` (44_channel_mix.md R255). -/
def panAtt (p : BitVec 5) : Nat :=
  let mag := (p.extractLsb' 0 4).toNat
  if mag = 15 then attMute else mag * 8

end Sys2Proof.Machine
end

