-- ==== Sys2Proof/Machine/Operands.lean ====
section
/-! DEFINITION. Every operand form: the fields of the registers (30_encoding.md R80 to R100), the values derived from them
(10_state.md R25: pure functions of the current fields, evaluated where they are used) and the bytes, samples and codes of wave
memory (20_memory.md R61, R63; 41_stream.md R166, R167). -/

namespace Sys2Proof.Machine

/-- What a channel's rules read and do not write: the configuration, the registers, wave memory, and the channel's number. -/
structure Lane where
  cfg : Toggles
  regs : Memory
  wave : Memory
  c : Chan
deriving DecidableEq, Repr

/-- The 16-bit register whose low byte is at offset `o` (20_memory.md R66). -/
def Memory.half (m : Memory) (o : Nat) : Half := m.read (o + 1) ++ m.read o

/-- The offset of slot `k` of channel `c` (30_encoding.md R80). -/
def slotOffset (c : Chan) (k : Nat) : Nat := 128 * c.toNat + 4 * k

/-- Slot `k` of the channel. -/
def Lane.slot (ln : Lane) (k : Nat) : Half := ln.regs.half (slotOffset ln.c k)

/-! Slot 0 (R81) and slot 1 (R82). -/

/-- KYONEX, slot 0 bit 15. -/
def Lane.kyonex (ln : Lane) : Bool := (ln.slot 0).getLsbD 15

/-- KYONB, slot 0 bit 14. -/
def Lane.kyonb (ln : Lane) : Bool := (ln.slot 0).getLsbD 14

/-- SSCTL, slot 0 bit 10. -/
def Lane.ssctl (ln : Lane) : Bool := (ln.slot 0).getLsbD 10

/-- LPCTL, slot 0 bit 9. -/
def Lane.lpctl (ln : Lane) : Bool := (ln.slot 0).getLsbD 9

/-- PCMS, slot 0 bits 8:7. -/
def Lane.pcms (ln : Lane) : BitVec 2 := regField (ln.slot 0) 7 2

/-- `SA = (slot0[6:0], slot1[15:0])`, a 23-bit byte address (R100). -/
def Lane.sa (ln : Lane) : BitVec 23 := regField (ln.slot 0) 0 7 ++ ln.slot 1

/-! Slots 2 and 3 (R83, R84). -/

/-- LSA. -/
def Lane.lsa (ln : Lane) : Half := ln.slot 2

/-- LEA. -/
def Lane.lea (ln : Lane) : Half := ln.slot 3

/-! Slots 4 and 5 (R85, R86). -/

/-- D2R, slot 4 bits 15:11. -/
def Lane.d2r (ln : Lane) : BitVec 5 := regField (ln.slot 4) 11 5

/-- D1R, slot 4 bits 10:6. -/
def Lane.d1r (ln : Lane) : BitVec 5 := regField (ln.slot 4) 6 5

/-- AR, slot 4 bits 4:0. -/
def Lane.ar (ln : Lane) : BitVec 5 := regField (ln.slot 4) 0 5

/-- LPSLNK, slot 5 bit 14. -/
def Lane.lpslnk (ln : Lane) : Bool := (ln.slot 5).getLsbD 14

/-- KRS, slot 5 bits 13:10. -/
def Lane.krs (ln : Lane) : BitVec 4 := regField (ln.slot 5) 10 4

/-- DL, slot 5 bits 9:5. -/
def Lane.dl (ln : Lane) : BitVec 5 := regField (ln.slot 5) 5 5

/-- RR, slot 5 bits 4:0. -/
def Lane.rr (ln : Lane) : BitVec 5 := regField (ln.slot 5) 0 5

/-! Slots 6 and 7 (R87, R88). -/

/-- OCT, slot 6 bits 14:11. -/
def Lane.oct (ln : Lane) : BitVec 4 := regField (ln.slot 6) 11 4

/-- FNS, slot 6 bits 9:0. -/
def Lane.fns (ln : Lane) : BitVec 10 := regField (ln.slot 6) 0 10

/-- LFORE, slot 7 bit 15. -/
def Lane.lfore (ln : Lane) : Bool := (ln.slot 7).getLsbD 15

/-- LFOF, slot 7 bits 14:10. -/
def Lane.lfof (ln : Lane) : BitVec 5 := regField (ln.slot 7) 10 5

/-- PLFOWS, slot 7 bits 9:8. -/
def Lane.plfows (ln : Lane) : BitVec 2 := regField (ln.slot 7) 8 2

/-- PLFOS, slot 7 bits 7:5. -/
def Lane.plfos (ln : Lane) : BitVec 3 := regField (ln.slot 7) 5 3

/-- ALFOWS, slot 7 bits 4:3. -/
def Lane.alfows (ln : Lane) : BitVec 2 := regField (ln.slot 7) 3 2

/-- ALFOS, slot 7 bits 2:0. -/
def Lane.alfos (ln : Lane) : BitVec 3 := regField (ln.slot 7) 0 3

/-! Slots 8 to 10 (R89 to R91). -/

/-- IMXL, slot 8 bits 7:4. -/
def Lane.imxl (ln : Lane) : BitVec 4 := regField (ln.slot 8) 4 4

/-- ISEL, slot 8 bits 3:0. -/
def Lane.isel (ln : Lane) : BitVec 4 := regField (ln.slot 8) 0 4

/-- DISDL, slot 9 bits 11:8. -/
def Lane.disdl (ln : Lane) : BitVec 4 := regField (ln.slot 9) 8 4

/-- DIPAN, slot 9 bits 4:0. -/
def Lane.dipan (ln : Lane) : BitVec 5 := regField (ln.slot 9) 0 5

/-- TL, slot 10 bits 15:8. -/
def Lane.tl (ln : Lane) : BitVec 8 := regField (ln.slot 10) 8 8

/-- VOFF, slot 10 bit 6: stored, no effect. -/
def Lane.voff (ln : Lane) : Bool := (ln.slot 10).getLsbD 6

/-- LPOFF, slot 10 bit 5: stored, no effect. -/
def Lane.lpoff (ln : Lane) : Bool := (ln.slot 10).getLsbD 5

/-- Q, slot 10 bits 4:0: stored, no effect. -/
def Lane.filterQ (ln : Lane) : BitVec 5 := regField (ln.slot 10) 0 5

/-! Slots 11 to 17 (R92 to R98): stored, no effect (42_envelope.md R194). -/

/-- FLV0 to FLV4, slots 11 to 15 bits 12:0, by their number. -/
def Lane.flv (ln : Lane) (n : Nat) : BitVec 13 := regField (ln.slot (11 + n)) 0 13

/-- FAR, slot 16 bits 12:8. -/
def Lane.far (ln : Lane) : BitVec 5 := regField (ln.slot 16) 8 5

/-- FD1R, slot 16 bits 4:0. -/
def Lane.fd1r (ln : Lane) : BitVec 5 := regField (ln.slot 16) 0 5

/-- FD2R, slot 17 bits 12:8. -/
def Lane.fd2r (ln : Lane) : BitVec 5 := regField (ln.slot 17) 8 5

/-- FRR, slot 17 bits 4:0. -/
def Lane.frr (ln : Lane) : BitVec 5 := regField (ln.slot 17) 0 5

/-! The common registers (R99). -/

/-- EFSDL[k], 0x2000 + 4k bits 11:8. -/
def Memory.efsdl (m : Memory) (k : Nat) : BitVec 4 := regField (m.half (0x2000 + 4 * k)) 8 4

/-- EFPAN[k], 0x2000 + 4k bits 4:0. -/
def Memory.efpan (m : Memory) (k : Nat) : BitVec 5 := regField (m.half (0x2000 + 4 * k)) 0 5

/-- MONO, 0x2800 bit 15. -/
def Memory.mono (m : Memory) : Bool := (m.half 0x2800).getLsbD 15

/-- MEM8MB, 0x2800 bit 9: stored, no effect. -/
def Memory.mem8mb (m : Memory) : Bool := (m.half 0x2800).getLsbD 9

/-- DAC18B, 0x2800 bit 8. -/
def Memory.dac18b (m : Memory) : Bool := (m.half 0x2800).getLsbD 8

/-- VER, 0x2800 bits 7:4: stored, no effect. -/
def Memory.ver (m : Memory) : BitVec 4 := regField (m.half 0x2800) 4 4

/-- MVOL, 0x2800 bits 3:0. -/
def Memory.mvol (m : Memory) : BitVec 4 := regField (m.half 0x2800) 0 4

/-- AFSET, 0x280C bit 14: stored, ignored (45_register_interface.md R298). -/
def Memory.afset (m : Memory) : Bool := (m.half 0x280C).getLsbD 14

/-- MSLC, 0x280C bits 13:8. -/
def Memory.mslc (m : Memory) : Chan := regField (m.half 0x280C) 8 6

/-! Derived values. -/

/-- `Format(ch)` (41_stream.md R158, 30_encoding.md R103). -/
def Lane.format (ln : Lane) : SampleFormat :=
  if ln.ssctl then .noise
  else if ln.pcms = 0 then .pcm16
  else if ln.pcms = 1 then .pcm8
  else if ln.pcms = 2 then .adpcm
  else .adpcmStream

/-- `UpdateRate(ch)` (41_stream.md R150). -/
def Lane.updateRate (ln : Lane) : Nat :=
  let r := 1024 ||| ln.fns.toNat
  if ln.oct.toNat < 8 then r <<< ln.oct.toNat else r >>> (16 - ln.oct.toNat)

/-- `EffRate(ch, re)` (42_envelope.md R182). -/
def Lane.effRate (ln : Lane) (re : BitVec 5) : Nat :=
  let rv : Int := 2 * re.toNat + ln.krs.toNat + (if ln.fns.getLsbD 9 then 1 else 0)
  let rv := if ln.krs = 15 then rv - 15 else rv
  (clamp (rv + 2 * ln.oct.toInt) 0 63).toNat

/-- `AttackRate(ch)` (42_envelope.md R185). -/
def Lane.attackRate (ln : Lane) : Nat := aegAttStep (ln.effRate ln.ar)

/-- `Decay1Rate(ch)` (42_envelope.md R185). -/
def Lane.decay1Rate (ln : Lane) : Nat := aegDsrStep (ln.effRate ln.d1r)

/-- `Decay2Rate(ch)` (42_envelope.md R185). -/
def Lane.decay2Rate (ln : Lane) : Nat := aegDsrStep (ln.effRate ln.d2r)

/-- `ReleaseRate(ch)` (42_envelope.md R185). -/
def Lane.releaseRate (ln : Lane) : Nat := aegDsrStep (ln.effRate ln.rr)

/-- `PanHelper(base, p)`: the attenuations of left and right (44_channel_mix.md R256). -/
def panHelper (base : Nat) (p : BitVec 5) : Nat × Nat :=
  let b := min base 511
  let x := min (b + panAtt p) 511
  if p.getLsbD 4 then (b, x) else (x, b)

/-- The left and right attenuations of `BusAtt(ch)` (44_channel_mix.md R257). -/
def Lane.busAtt (ln : Lane) : Nat × Nat := panHelper (ln.tl.toNat + sendAtt ln.disdl) ln.dipan

/-- The auxiliary attenuation of `BusAtt(ch)` (44_channel_mix.md R257). -/
def Lane.auxAtt (ln : Lane) : Nat := min (ln.tl.toNat + sendAtt ln.imxl) 511

/-! Wave memory. -/

/-- `MemRead8(a)`: the byte at `a & (ARAM_SIZE - 1)` (20_memory.md R61). -/
def memRead8 (w : Memory) (a : Nat) : Byte := w.read (a % aramSize)

/-- `MemRead16(a)`, each byte reduced separately (20_memory.md R61, R63). -/
def memRead16 (w : Memory) (a : Nat) : Half := memRead8 w (a + 1) ++ memRead8 w a

/-- Sample `n` of a PCM16 channel (41_stream.md R160). -/
def Lane.pcm16Sample (ln : Lane) (n : Nat) : Int := (memRead16 ln.wave (ln.sa.toNat + 2 * n)).toInt

/-- Sample `n` of a PCM8 channel, scaled to 16 bits (41_stream.md R161). -/
def Lane.pcm8Sample (ln : Lane) (n : Nat) : Int := (memRead8 ln.wave (ln.sa.toNat + n)).toInt * 2 ^ 8

/-- `Code(ch, n)`: the even sample in the low nibble (41_stream.md R166, 30_encoding.md R102). -/
def Lane.adpcmCode (ln : Lane) (n : Nat) : BitVec 4 :=
  (memRead8 ln.wave (ln.sa.toNat + n / 2)).extractLsb' (4 * (n % 2)) 4

end Sys2Proof.Machine
end

