-- ==== Sys2Proof/Machine/Flags.lean ====
section
/-! DEFINITION. Every flag and condition the spec computes (10_state.md R29): the loop-end and loop-start tests, the status and
play-address values a READ reports, when a READ clears the looped flag, and the self-clearing command bits. -/

namespace Sys2Proof.Machine

/-- The address compared with the loop end: rounded down to a multiple of 4 in the ADPCM stream format only
(41_stream.md R157, `ca & ~3`). -/
def Lane.compareAddr (ln : Lane) (ca : Nat) : Nat := if ln.format = .adpcmStream then ca - ca % 4 else ca

/-- The loop-end test on the incremented address (41_stream.md R154). -/
def Lane.loopEnd (ln : Lane) (ca : Nat) : Bool := decide (ln.lea.toNat ≤ ln.compareAddr ca)

/-- The loop-start-link test on the incremented address, in Attack only (41_stream.md R153). -/
def Lane.linkHit (ln : Lane) (st : EgState) (ca : Nat) : Bool :=
  ln.lpslnk && decide (st = .attack) && decide (ln.lsa.toNat ≤ ca)

/-- The logical envelope value `V = aeg_fp >> B` (42_envelope.md R181). -/
def Channel.envValue (ch : Channel) : Nat := ch.aegFp >>> aegStepBits

/-- The code of an envelope state (30_encoding.md R105). -/
def EgState.code : EgState → BitVec 2
  | .attack => 0
  | .decay1 => 1
  | .decay2 => 2
  | .release => 3

/-- `StatusValue()` of a channel: LP, SGC, EG (45_register_interface.md R298). -/
def Channel.statusValue (ch : Channel) : Half :=
  BitVec.ofBool ch.looped ++ ch.aegState.code ++ BitVec.ofNat 13 ch.envValue

/-- `CAValue()` of a channel (45_register_interface.md R300). -/
def Channel.caValue (ch : Channel) : Half := BitVec.ofNat 16 ch.ca

/-- Whether `READ(size, a)` clears the looped flag of channel MSLC (45_register_interface.md R299, `StatusClear`). -/
def statusClears (z : Size) (a : Nat) : Bool :=
  (decide (a = 0x2810) && decide (2 ≤ z.bytes)) || (decide (a = 0x2811) && decide (z.bytes = 1))

/-- Whether an aligned WRITE at byte `b` of a slot stores 1 into the register's bit 15, KYONEX in slot 0 and LFORE in slot 7
(45_register_interface.md R294, 43_lfo.md R230). -/
def topBitStored (z : Size) (b : Nat) (d : Word) : Bool :=
  decide (b ≤ 1) && decide (1 < b + z.bytes) && (dataByte d (1 - b)).getLsbD 7

/-- Whether a WRITE at byte `b` of a slot stores a byte: the upper half of a slot holds nothing (20_memory.md R66). -/
def slotByteStored (b : Nat) : Bool := decide (b < 2)

end Sys2Proof.Machine
end

