-- ==== Sys2Proof/Machine/Ops.lean ====
section
/-! DEFINITION. The named operations over the state: access to the channels and the register bytes, and the one non-normal outcome.
The block has no exceptions, traps or interrupts, so there is none to take or to return from (60_exceptions.md R330, R335, R336);
what stands in their place is the refusal (R332). -/

namespace Sys2Proof.Machine

/-- The dynamic state of a channel. -/
def State.chan (s : State) (c : Chan) : Channel := s.chans[c.toNat]'c.isLt

/-- The state with a channel's dynamic state replaced. -/
def State.setChan (s : State) (c : Chan) (ch : Channel) : State := { s with chans := s.chans.set c.toNat ch c.isLt }

/-- What the rules of channel `c` read and do not write. -/
def State.lane (s : State) (c : Chan) : Lane := { cfg := s.cfg, regs := s.regs, wave := s.wave, c := c }

/-- The byte the register space stores at an offset, `regbyte[o]` (45_register_interface.md R291). -/
def State.regByte (s : State) (o : Nat) : Byte := s.regs.read o

/-- The byte of wave memory at an address. -/
def State.waveByte (s : State) (a : Nat) : Byte := s.wave.read a

/-- `refuse <reason>`: no successor state; the state is unchanged and nothing records it (60_exceptions.md R332). -/
def refuse (r : Refusal) : Host.Outcome State Fault Refusal := .refused r

/-- `Disable(ch)` (42_envelope.md R190). -/
def Channel.disable (ch : Channel) : Channel := { ch with enabled := false, aegState := .release, aegFp := aegMax }

/-- `ADPCMReset(ch)` (40_adpcm.md R126). -/
def Channel.adpcmReset (ch : Channel) : Channel := { ch with q := adpcmQReset, s0 := 0 }

/-- A size's alignment rule broken (20_memory.md R66, 45_register_interface.md R302). -/
def misaligned (z : Size) (a : Nat) : Bool :=
  (decide (z = .b2) && decide (a % 2 = 1)) || (decide (z = .b4) && decide (a % 4 ≠ 0))

/-- The slots of the register map (20_memory.md R65, 45_register_interface.md R302). -/
def mapped (a : Nat) : Bool :=
  decide (a < 0x2048) || decide (0x2800 ≤ a ∧ a ≤ 0x2803) || decide (0x280C ≤ a ∧ a ≤ 0x280F)
    || decide (0x2810 ≤ a ∧ a ≤ 0x2813) || decide (0x2814 ≤ a ∧ a ≤ 0x2817)

/-- `Refused(size, a)` and its reason, `misaligned` before `unmapped` (45_register_interface.md R302, 60_exceptions.md R333).
`bad_op` is decided from the operation's codes before any size or offset exists. -/
def accessRefusal (z : Size) (a : Nat) : Option Refusal :=
  if misaligned z a then some .misaligned else if mapped a then none else some .unmapped

/-- Whether the register space stores a byte at an offset: not in the upper half of a slot, and not in the read-only status
registers (45_register_interface.md R291). -/
def byteStored (o : Nat) : Bool := decide (o % 4 < 2) && !decide (0x2810 ≤ o ∧ o ≤ 0x2817)

/-- One byte of a WRITE's loop (45_register_interface.md R291). -/
def storeByte (m : Memory) (o : Nat) (v : Byte) : Memory := if byteStored o then m.write o v else m

/-- The first `n` bytes of a WRITE's loop (45_register_interface.md R291). -/
def storeBytes (m : Memory) (a : Nat) (d : Word) : Nat → Memory
  | 0 => m
  | n + 1 => storeByte (storeBytes m a d n) (a + n) (dataByte d n)

/-- The byte a READ sees at an offset (45_register_interface.md R297, R298, R300). -/
def State.readByte (s : State) (o : Nat) : Byte :=
  if 2 ≤ o % 4 then 0
  else if o = 0x2810 ∨ o = 0x2811 then (s.chan s.regs.mslc).statusValue.extractLsb' (8 * (o - 0x2810)) 8
  else if o = 0x2814 ∨ o = 0x2815 then (s.chan s.regs.mslc).caValue.extractLsb' (8 * (o - 0x2814)) 8
  else s.regByte o

/-- The first `n` bytes of a READ's value, little-endian (45_register_interface.md R297). -/
def State.readBytes (s : State) (a : Nat) : Nat → Word
  | 0 => 0
  | n + 1 => s.readBytes a n ||| ((s.readByte (a + n)).setWidth 32 <<< (8 * n))

/-- Clearing bit 15 of the register of slot `k` of channel `c`: how KYONEX and LFORE clear themselves
(45_register_interface.md R292). -/
def clearTopBit (m : Memory) (c : Chan) (k : Nat) : Memory :=
  m.write (slotOffset c k + 1) (m.read (slotOffset c k + 1) &&& 0x7F)

end Sys2Proof.Machine
end

