-- ==== Sys2Proof/Machine/Envelope.lean ====
section
/-! DEFINITION. The amplitude envelope generator and the filter-envelope stub (42_envelope.md), with the four state rows. -/

namespace Sys2Proof.Machine

/-- The Attack step (42_envelope.md R186). -/
def Channel.attackStep (ch : Channel) (ln : Lane) : Channel :=
  let v : Int := ch.aegFp - ln.attackRate
  if asr v aegStepBits ≤ 0 then
    { ch with aegFp := 0, aegState := if ln.lpslnk then ch.aegState else .decay1 }
  else { ch with aegFp := v.toNat }

/-- The Decay1 step, clamped at 1023 (42_envelope.md R187, R192). -/
def Channel.decay1Step (ch : Channel) (ln : Lane) : Channel :=
  let v := min (ch.aegFp + ln.decay1Rate) aegMax
  if ln.dl.toNat * 32 ≤ v >>> aegStepBits then
    { ch with aegFp := v, aegState := if ln.cfg.hackD1D2 ∧ ln.dl = 0 then .attack else .decay2 }
  else { ch with aegFp := v }

/-- The Decay2 step (42_envelope.md R188). -/
def Channel.decay2Step (ch : Channel) (ln : Lane) : Channel :=
  let v := ch.aegFp + ln.decay2Rate
  if 1023 ≤ v >>> aegStepBits then { ch with aegFp := aegMax, aegState := .release } else { ch with aegFp := v }

/-- The Release step (42_envelope.md R189). -/
def Channel.releaseStep (ch : Channel) (ln : Lane) : Channel :=
  let v := ch.aegFp + ln.releaseRate
  if 1023 ≤ v >>> aegStepBits then Channel.disable { ch with aegFp := aegMax } else { ch with aegFp := v }

/-- `AEGStep(ch)` (42_envelope.md R180, R186 to R189). -/
def Channel.aegStep (ch : Channel) (ln : Lane) : Channel :=
  match ch.aegState with
  | .attack => ch.attackStep ln
  | .decay1 => ch.decay1Step ln
  | .decay2 => ch.decay2Step ln
  | .release => ch.releaseStep ln

/-- `FEGStep(ch)`: "a documented no-op" (42_envelope.md R194). -/
def Channel.fegStep (ch : Channel) : Channel := ch

/-- The envelope step that a state code selects, on the channel being processed: run when that channel is enabled and in that
state, and otherwise not selected, so that nothing changes (42_envelope.md R180; notes/assumptions/8.md). -/
def State.aegUnit (s : State) (st : EgState) : State :=
  let ch := s.chan s.inp.channel
  if ch.enabled ∧ ch.aegState = st then s.setChan s.inp.channel (ch.aegStep (s.lane s.inp.channel)) else s

/-- `SGC_ATTACK`: the Attack step on the channel being processed (42_envelope.md R186). -/
def execSgcAttack (s : State) : Host.Outcome State Fault Refusal := .next (s.aegUnit .attack)

/-- `SGC_DECAY1`: the Decay1 step on the channel being processed (42_envelope.md R187). -/
def execSgcDecay1 (s : State) : Host.Outcome State Fault Refusal := .next (s.aegUnit .decay1)

/-- `SGC_DECAY2`: the Decay2 step on the channel being processed (42_envelope.md R188). -/
def execSgcDecay2 (s : State) : Host.Outcome State Fault Refusal := .next (s.aegUnit .decay2)

/-- `SGC_RELEASE`: the Release step on the channel being processed (42_envelope.md R189). -/
def execSgcRelease (s : State) : Host.Outcome State Fault Refusal := .next (s.aegUnit .release)

end Sys2Proof.Machine
end

