-- ==== Sys2Proof/Machine/Lfo.lean ====
section
/-! DEFINITION. The LFO (43_lfo.md), with the four waveform rows. -/

namespace Sys2Proof.Machine

/-- Waveform 0, sawtooth (43_lfo.md R223). -/
def waveSaw (p : BitVec 8) : BitVec 8 := p

/-- Waveform 1, square (43_lfo.md R224). -/
def waveSquare (p : BitVec 8) : BitVec 8 := if 128 ≤ p.toNat then 255 else 0

/-- Waveform 2, triangle (43_lfo.md R225). -/
def waveTriangle (p : BitVec 8) : BitVec 8 := ((p &&& 0x7F) ^^^ (if 128 ≤ p.toNat then 0x7F else 0)) <<< 1

/-- Waveform 3, pseudo-random (43_lfo.md R226). -/
def waveNoise (p : BitVec 8) : BitVec 8 := ((p >>> 3) ^^^ (p <<< 3) ^^^ (p &&& 0xE3)) &&& 0xFF

/-- The waveform of a code (30_encoding.md R104). -/
def lfoWave (code : BitVec 2) (p : BitVec 8) : BitVec 8 :=
  if code = 0 then waveSaw p else if code = 1 then waveSquare p else if code = 2 then waveTriangle p else waveNoise p

/-- A waveform value shifted right by `8 - depth` (43_lfo.md R222). -/
def lfoDepth (v : BitVec 8) (depth : BitVec 3) : BitVec 8 := v >>> (8 - depth.toNat)

/-- `LFORecompute(ch)` (43_lfo.md R227, R228). -/
def Channel.lfoRecompute (ch : Channel) (ln : Lane) : Channel :=
  { ch with alfo := lfoDepth (lfoWave ln.alfows ch.lfoPhase) ln.alfos,
            plfo := lfoDepth (lfoWave ln.plfows ch.lfoPhase) ln.plfos }

/-- `LFOStep(ch)` (43_lfo.md R221). -/
def Channel.lfoStep (ch : Channel) (ln : Lane) : Channel :=
  if ch.lfoCounter - 1 = 0 then
    Channel.lfoRecompute { ch with lfoPhase := ch.lfoPhase + 1, lfoCounter := lfoStart ln.lfof } ln
  else { ch with lfoCounter := ch.lfoCounter - 1 }

/-- `LFOWrite(ch, lfore)` (43_lfo.md R229, R230). -/
def Channel.lfoWrite (ch : Channel) (ln : Lane) (lfore : Bool) : Channel :=
  let ch := if ln.cfg.lfoWriteReloads then { ch with lfoCounter := lfoStart ln.lfof } else ch
  let ch := if lfore then { ch with lfoPhase := 0, lfoCounter := lfoStart ln.lfof } else ch
  ch.lfoRecompute ln

/-- A waveform applied to the channel being processed: the output the inputs name is recomputed with it, at that output's own depth
(43_lfo.md R222, R227, R228; notes/assumptions/7.md, 9.md). DESIGN CHOICE: it is recomputed on a disabled channel too, whose LFO a
TICK leaves frozen (R231; notes/assumptions/26.md). -/
def State.lfoUnit (s : State) (w : BitVec 8 → BitVec 8) : State :=
  let ch := s.chan s.inp.channel
  let ln := s.lane s.inp.channel
  s.setChan s.inp.channel
    (match s.inp.lfoOut with
      | .amplitude => { ch with alfo := lfoDepth (w ch.lfoPhase) ln.alfos }
      | .pitch => { ch with plfo := lfoDepth (w ch.lfoPhase) ln.plfos })

/-- `LFO_SAW`: waveform 0 on the channel being processed (43_lfo.md R223). -/
def execLfoSaw (s : State) : Host.Outcome State Fault Refusal := .next (s.lfoUnit waveSaw)

/-- `LFO_SQUARE`: waveform 1 on the channel being processed (43_lfo.md R224). -/
def execLfoSquare (s : State) : Host.Outcome State Fault Refusal := .next (s.lfoUnit waveSquare)

/-- `LFO_TRIANGLE`: waveform 2 on the channel being processed (43_lfo.md R225). -/
def execLfoTriangle (s : State) : Host.Outcome State Fault Refusal := .next (s.lfoUnit waveTriangle)

/-- `LFO_NOISE`: waveform 3 on the channel being processed (43_lfo.md R226). -/
def execLfoNoise (s : State) : Host.Outcome State Fault Refusal := .next (s.lfoUnit waveNoise)

end Sys2Proof.Machine
end

