-- ==== Sys2Proof/Machine/Adpcm.lean ====
section
/-! DEFINITION. The ADPCM decoder (40_adpcm.md) and the sixteen code rows. -/

namespace Sys2Proof.Machine

/-- The magnitude of the difference, `min((q * (2m + 1)) >> 3, 0x7FFF)` (40_adpcm.md R122, R123). -/
def adpcmMagnitude (m q : Nat) : Nat := min ((q * (2 * m + 1)) >>> 3) 0x7FFF

/-- The adapted step, `clamp((q * ADPCM_QS[m]) >> 8, 0x7F, 0x6000)` (40_adpcm.md R125). -/
def adpcmNextStep (m q : Nat) : Nat := min (max ((q * adpcmQs m) >>> 8) 0x7F) 0x6000

/-- `ADPCMDecode(c, prev, q)` (40_adpcm.md R120): the sample and the next step, both from the old step. -/
def adpcmDecode (c : BitVec 4) (prev : Int) (q : Nat) : Int × Nat :=
  let m := (c.extractLsb' 0 3).toNat
  let d : Int := if c.getLsbD 3 then -(adpcmMagnitude m q : Int) else (adpcmMagnitude m q : Int)
  (clip16 (prev + d), adpcmNextStep m q)

/-- A committed decode (40_adpcm.md R127). -/
def Channel.adpcmCommit (ch : Channel) (c : BitVec 4) : Channel :=
  { ch with s0 := (adpcmDecode c ch.s0 ch.q).1, q := (adpcmDecode c ch.s0 ch.q).2 }

/-- A lookahead decode: fills `s1`, discards the step (40_adpcm.md R127). -/
def Channel.adpcmLookahead (ch : Channel) (c : BitVec 4) : Channel :=
  { ch with s1 := (adpcmDecode c ch.s0 ch.q).1 }

/-- A code decoded on the channel being processed, committed or lookahead as the inputs say (notes/assumptions/7.md),
on a disabled channel too (notes/assumptions/26.md). -/
def State.adpcmUnit (s : State) (c : BitVec 4) : State :=
  s.setChan s.inp.channel
    (if s.inp.lookahead then (s.chan s.inp.channel).adpcmLookahead c else (s.chan s.inp.channel).adpcmCommit c)

/-- `ADPCM_0`: code 0x0 (40_adpcm.md R130). -/
def execAdpcm0 (s : State) : Host.Outcome State Fault Refusal := .next (s.adpcmUnit 0x0#4)

/-- `ADPCM_1`: code 0x1 (40_adpcm.md R131). -/
def execAdpcm1 (s : State) : Host.Outcome State Fault Refusal := .next (s.adpcmUnit 0x1#4)

/-- `ADPCM_2`: code 0x2 (40_adpcm.md R132). -/
def execAdpcm2 (s : State) : Host.Outcome State Fault Refusal := .next (s.adpcmUnit 0x2#4)

/-- `ADPCM_3`: code 0x3 (40_adpcm.md R133). -/
def execAdpcm3 (s : State) : Host.Outcome State Fault Refusal := .next (s.adpcmUnit 0x3#4)

/-- `ADPCM_4`: code 0x4 (40_adpcm.md R134). -/
def execAdpcm4 (s : State) : Host.Outcome State Fault Refusal := .next (s.adpcmUnit 0x4#4)

/-- `ADPCM_5`: code 0x5 (40_adpcm.md R135). -/
def execAdpcm5 (s : State) : Host.Outcome State Fault Refusal := .next (s.adpcmUnit 0x5#4)

/-- `ADPCM_6`: code 0x6 (40_adpcm.md R136). -/
def execAdpcm6 (s : State) : Host.Outcome State Fault Refusal := .next (s.adpcmUnit 0x6#4)

/-- `ADPCM_7`: code 0x7 (40_adpcm.md R137). -/
def execAdpcm7 (s : State) : Host.Outcome State Fault Refusal := .next (s.adpcmUnit 0x7#4)

/-- `ADPCM_8`: code 0x8 (40_adpcm.md R138). -/
def execAdpcm8 (s : State) : Host.Outcome State Fault Refusal := .next (s.adpcmUnit 0x8#4)

/-- `ADPCM_9`: code 0x9 (40_adpcm.md R139). -/
def execAdpcm9 (s : State) : Host.Outcome State Fault Refusal := .next (s.adpcmUnit 0x9#4)

/-- `ADPCM_A`: code 0xa (40_adpcm.md R140). -/
def execAdpcmA (s : State) : Host.Outcome State Fault Refusal := .next (s.adpcmUnit 0xa#4)

/-- `ADPCM_B`: code 0xb (40_adpcm.md R141). -/
def execAdpcmB (s : State) : Host.Outcome State Fault Refusal := .next (s.adpcmUnit 0xb#4)

/-- `ADPCM_C`: code 0xc (40_adpcm.md R142). -/
def execAdpcmC (s : State) : Host.Outcome State Fault Refusal := .next (s.adpcmUnit 0xc#4)

/-- `ADPCM_D`: code 0xd (40_adpcm.md R143). -/
def execAdpcmD (s : State) : Host.Outcome State Fault Refusal := .next (s.adpcmUnit 0xd#4)

/-- `ADPCM_E`: code 0xe (40_adpcm.md R144). -/
def execAdpcmE (s : State) : Host.Outcome State Fault Refusal := .next (s.adpcmUnit 0xe#4)

/-- `ADPCM_F`: code 0xf (40_adpcm.md R145). -/
def execAdpcmF (s : State) : Host.Outcome State Fault Refusal := .next (s.adpcmUnit 0xf#4)

end Sys2Proof.Machine
end

