-- ==== Sys2Proof/Machine/Stream.lean ====
section
/-! DEFINITION. The sample stream stepper, its loop control and fetches, and the interpolator (41_stream.md), with the five format
rows. -/

namespace Sys2Proof.Machine

/-- The PCM16 fetch (41_stream.md R160, R168). -/
def Channel.fetchPcm16 (ch : Channel) (ln : Lane) (a : Nat) (last : Bool) : Channel :=
  if last then { ch with s0 := ln.pcm16Sample a, s1 := ln.pcm16Sample (a + 1) } else ch

/-- The PCM8 fetch (41_stream.md R161, R168). -/
def Channel.fetchPcm8 (ch : Channel) (ln : Lane) (a : Nat) (last : Bool) : Channel :=
  if last then { ch with s0 := ln.pcm8Sample a, s1 := ln.pcm8Sample (a + 1) } else ch

/-- The ADPCM fetch: always a committed decode of sample `a`, then on the last increment a lookahead decode of sample `a + 1`
(41_stream.md R162). -/
def Channel.fetchAdpcm (ch : Channel) (ln : Lane) (a : Nat) (last : Bool) : Channel :=
  let ch := ch.adpcmCommit (ln.adpcmCode a)
  if last then ch.adpcmLookahead (ln.adpcmCode (a + 1)) else ch

/-- The noise fetch: the state advances once, and `s1` is the sample of the next advance (41_stream.md R164). -/
def Channel.fetchNoise (ch : Channel) (last : Bool) : Channel :=
  if last then
    { ch with noise := noiseNext ch.noise, s0 := noiseSample (noiseNext ch.noise),
              s1 := noiseSample (noiseNext (noiseNext ch.noise)) }
  else ch

/-- `Fetch(ch, a, last)` (41_stream.md R159). The ADPCM stream fetch is the ADPCM one (R163). -/
def Channel.fetch (ch : Channel) (ln : Lane) (a : Nat) (last : Bool) : Channel :=
  match ln.format with
  | .pcm16 => ch.fetchPcm16 ln a last
  | .pcm8 => ch.fetchPcm8 ln a last
  | .adpcm => ch.fetchAdpcm ln a last
  | .adpcmStream => ch.fetchAdpcm ln a last
  | .noise => ch.fetchNoise last

/-- The loop-start link of an increment (41_stream.md R153). -/
def Channel.link (ch : Channel) (ln : Lane) (ca : Nat) : Channel :=
  if ln.linkHit ch.aegState ca then { ch with aegState := .decay1 } else ch

/-- What a loop-end hit does beside moving CA (41_stream.md R154 to R156): sets `looped`, then resets the decoder of a looping
one-shot ADPCM channel, or disables a channel that does not loop. -/
def Channel.hitLoopEnd (ch : Channel) (ln : Lane) : Channel :=
  if ln.lpctl then
    if ln.format = .adpcm ∧ ln.cfg.adpcmLoopReset then Channel.adpcmReset { ch with looped := true }
    else { ch with looped := true }
  else Channel.disable { ch with looped := true }

/-- `StreamCross(ch, last)`: one whole-sample increment (41_stream.md R152). -/
def Channel.streamCross (ch : Channel) (ln : Lane) (last : Bool) : Channel :=
  let ca := ch.ca + 1
  if ln.loopEnd ca then
    Channel.fetch { (ch.link ln ca).hitLoopEnd ln with ca := ln.lsa.toNat } ln ln.lsa.toNat last
  else Channel.fetch { ch.link ln ca with ca := ca } ln ca last

/-- `n` increments in order, the final one marked last (41_stream.md R152). -/
def Channel.streamRun (ch : Channel) (ln : Lane) : Nat → Channel
  | 0 => ch
  | n + 1 => (ch.streamCross ln (decide (n = 0))).streamRun ln n

/-- `StreamStep(ch)`: the fraction first, then the increments crossed (41_stream.md R151, R152). -/
def Channel.streamStep (ch : Channel) (ln : Lane) : Channel :=
  let acc := ch.frac.toNat + ln.updateRate
  Channel.streamRun { ch with frac := BitVec.ofNat 10 acc } ln (acc >>> 10)

/-- `Interp(ch)` (41_stream.md R170). -/
def Channel.interp (ch : Channel) : Int := asr (ch.s0 * (1024 - ch.frac.toNat) + ch.s1 * ch.frac.toNat) 10

/-- `FMT_PCM16`: the fetch of this format on the channel being processed (41_stream.md R160; notes/assumptions/9.md, 26.md). -/
def execFmtPcm16 (s : State) : Host.Outcome State Fault Refusal :=
  .next (s.setChan s.inp.channel ((s.chan s.inp.channel).fetchPcm16 (s.lane s.inp.channel) s.inp.addr s.inp.last))

/-- `FMT_PCM8`: the fetch of this format on the channel being processed (41_stream.md R161; notes/assumptions/9.md, 26.md). -/
def execFmtPcm8 (s : State) : Host.Outcome State Fault Refusal :=
  .next (s.setChan s.inp.channel ((s.chan s.inp.channel).fetchPcm8 (s.lane s.inp.channel) s.inp.addr s.inp.last))

/-- `FMT_ADPCM`: the fetch of this format on the channel being processed (41_stream.md R162; notes/assumptions/9.md, 26.md). -/
def execFmtAdpcm (s : State) : Host.Outcome State Fault Refusal :=
  .next (s.setChan s.inp.channel ((s.chan s.inp.channel).fetchAdpcm (s.lane s.inp.channel) s.inp.addr s.inp.last))

/-- `FMT_ADPCM_STREAM`: the fetch of this format on the channel being processed (41_stream.md R163; notes/assumptions/9.md, 26.md). -/
def execFmtAdpcmStream (s : State) : Host.Outcome State Fault Refusal :=
  .next (s.setChan s.inp.channel ((s.chan s.inp.channel).fetchAdpcm (s.lane s.inp.channel) s.inp.addr s.inp.last))

/-- `FMT_NOISE`: the fetch of this format on the channel being processed (41_stream.md R164; notes/assumptions/9.md, 26.md). -/
def execFmtNoise (s : State) : Host.Outcome State Fault Refusal :=
  .next (s.setChan s.inp.channel ((s.chan s.inp.channel).fetchNoise s.inp.last))

end Sys2Proof.Machine
end

