-- ==== Sys2Proof/Machine/Mix.lean ====
section
/-! DEFINITION. The channel's turn, the mixer and the output stage (44_channel_mix.md), with the TICK row. -/

namespace Sys2Proof.Machine

/-- `(x * ATT_LUT[i]) >> 15` (44_channel_mix.md R251, R263). -/
def attenuate (x : Int) (i : Nat) : Int := asr (x * attLut i) 15

/-- The combined attenuation, `min(alfo + (V >> 2), 1023)` (44_channel_mix.md R262). -/
def Channel.attOffset (ch : Channel) : Nat := min (ch.alfo.toNat + ch.envValue >>> 2) (attLen - 1)

/-- The index of a bus lookup, `min(ofs + att, ATT_LEN - 1)` (44_channel_mix.md R263). -/
def busIndex (ofs att : Nat) : Nat := min (ofs + att) (attLen - 1)

/-- A channel's contribution to the sums, from the state before its steps (44_channel_mix.md R261 to R264). -/
def Channel.mixInto (ch : Channel) (ln : Lane) (m : Frame) : Frame :=
  let x := ch.interp
  let ofs := ch.attOffset
  { l := m.l + attenuate x (busIndex ofs ln.busAtt.1)
    r := m.r + attenuate x (busIndex ofs ln.busAtt.2)
    aux := m.aux.set ln.isel.toNat (m.aux[ln.isel.toNat]'ln.isel.isLt + attenuate x (busIndex ofs ln.auxAtt)) ln.isel.isLt }

/-- The four steps of an enabled channel, all of them, in the fixed order (44_channel_mix.md R261). -/
def Channel.steps (ch : Channel) (ln : Lane) : Channel := (((ch.aegStep ln).fegStep).streamStep ln).lfoStep ln

/-- The channel's state after its turn: a disabled channel is skipped entirely (44_channel_mix.md R260, R261). -/
def Channel.turn (ch : Channel) (ln : Lane) : Channel := if ch.enabled then ch.steps ln else ch

/-- The sums after the channel's turn (44_channel_mix.md R260, R261). -/
def Channel.turnMix (ch : Channel) (ln : Lane) (m : Frame) : Frame := if ch.enabled then ch.mixInto ln m else m

/-- `ChannelTick` of channel `c` in the state (44_channel_mix.md R261). -/
def State.channelTick (s : State) (m : Frame) (c : Chan) : State × Frame :=
  (s.setChan c ((s.chan c).turn (s.lane c)), (s.chan c).turnMix (s.lane c) m)

/-- The turns of channels 0 to `n - 1`, in ascending order (44_channel_mix.md R250). -/
def State.tickUpTo (s : State) : Nat → State × Frame
  | 0 => (s, Frame.zero)
  | n + 1 => (s.tickUpTo n).1.channelTick (s.tickUpTo n).2 (BitVec.ofNat 6 n)

/-- One input of `CDInject`, through the send slot `k` (44_channel_mix.md R265). -/
def injectOne (regs : Memory) (v : Int) (k : Nat) (m : Frame) : Frame :=
  let p := panHelper (sendAtt (regs.efsdl k)) (regs.efpan k)
  { m with l := m.l + attenuate v p.1, r := m.r + attenuate v p.2 }

/-- `CDInject(cdL, cdR, L, R)`, skipped when CD_MUTE is true (44_channel_mix.md R265, R270). -/
def State.cdInject (s : State) (m : Frame) : Frame :=
  if s.cfg.cdMute then m else injectOne s.regs s.inp.cdR.toInt 17 (injectOne s.regs s.inp.cdL.toInt 16 m)

/-- The mono fold (44_channel_mix.md R266). -/
def monoFold (regs : Memory) (m : Frame) : Frame := if regs.mono then { m with l := m.l + m.r, r := m.l + m.r } else m

/-- The master volume of one side (44_channel_mix.md R267). -/
def masterVolume (regs : Memory) (v : Int) : Int := asr (v * mvolLut regs.mvol) 15

/-- The output shift of one side (44_channel_mix.md R268). -/
def outputShift (regs : Memory) (v : Int) : Int := if regs.dac18b then asr v 2 else v

/-- The output stage after the channel sums: CD, mono, master volume, shift, clip; the auxiliary sums pass unclipped
(44_channel_mix.md R250, R265 to R269). -/
def State.outputStage (s : State) (m : Frame) : Frame :=
  let m := monoFold s.regs (s.cdInject m)
  { l := clip16 (outputShift s.regs (masterVolume s.regs m.l))
    r := clip16 (outputShift s.regs (masterVolume s.regs m.r))
    aux := m.aux }

/-- The TICK's result handed over: it is the frame, and it is delivered to the sink unless AUDIO_OUT_OFF is true
(44_channel_mix.md R269, R270). -/
def State.deliver (s : State) (f : Frame) : State :=
  { s with frame := f, sink := if s.cfg.audioOutOff then s.sink else f :: s.sink }

/-- `MixTick(cdL, cdR)` (44_channel_mix.md R250). -/
def State.mixTick (s : State) : State :=
  (s.tickUpTo nch).1.deliver ((s.tickUpTo nch).1.outputStage (s.tickUpTo nch).2)

/-- `TICK` (45_register_interface.md R303). -/
def execTick (s : State) : Host.Outcome State Fault Refusal := .next s.mixTick

end Sys2Proof.Machine
end

