-- ==== Sys2Proof/WellFormed.lean ====
section
/-! DEFINITION. Which terms of `Instr` are instructions: each row's fixed bits, and the words that a more specific row takes. -/

namespace Sys2Proof

/-- Whether an offset lies in a register that a register row of the opcode table describes: the mapped slots of 20_memory.md R65. -/
def registerOffset (a : Nat) : Bool :=
  decide (a < 0x2048) || decide (0x2800 ≤ a ∧ a < 0x2804) || decide (0x280C ≤ a ∧ a < 0x2818)

/-- Whether an aligned WRITE of `d` at byte `b` of a slot stores 1 into bit 15 of the slot's register: the fixed bits of the
KYONEX and LFORE rows (45_register_interface.md R294, 43_lfo.md R230). -/
def topBitWritten (z : Size) (b : Nat) (d : Word) : Bool :=
  match z with
  | .b1 => decide (b = 1) && d.getLsbD 7
  | .b2 => decide (b = 0) && d.getLsbD 15
  | .b4 => decide (b = 0) && d.getLsbD 15

/-- The rows' own conditions: the generic READ and WRITE stand for the offsets that no register row describes; a KYONEX or
LFORE row has its bit set and the plain slot 0 and slot 7 rows leave those words to it; a reserved-slot row has its own slots;
the clearing status READ is the 2- or 4-byte one at 0x2810 (notes/assumptions/3.md, 4.md). -/
def Instr.wellFormed : Instr → Bool
  | .adpcm0 => true
  | .adpcm1 => true
  | .adpcm2 => true
  | .adpcm3 => true
  | .adpcm4 => true
  | .adpcm5 => true
  | .adpcm6 => true
  | .adpcm7 => true
  | .adpcm8 => true
  | .adpcm9 => true
  | .adpcmA => true
  | .adpcmB => true
  | .adpcmC => true
  | .adpcmD => true
  | .adpcmE => true
  | .adpcmF => true
  | .tick => true
  | .read _ a => !registerOffset a.toNat
  | .write _ a _ => !registerOffset a.toNat
  | .reservedOp => true
  | .readBadsize => true
  | .writeBadsize => true
  | .writeChSlot0 z _ b d => !topBitWritten z b.toNat d
  | .readChSlot0 _ _ _ => true
  | .writeChSlot1 _ _ _ _ => true
  | .readChSlot1 _ _ _ => true
  | .writeChSlot2 _ _ _ _ => true
  | .readChSlot2 _ _ _ => true
  | .writeChSlot3 _ _ _ _ => true
  | .readChSlot3 _ _ _ => true
  | .writeChSlot4 _ _ _ _ => true
  | .readChSlot4 _ _ _ => true
  | .writeChSlot5 _ _ _ _ => true
  | .readChSlot5 _ _ _ => true
  | .writeChSlot6 _ _ _ _ => true
  | .readChSlot6 _ _ _ => true
  | .writeChSlot7 z _ b d => !topBitWritten z b.toNat d
  | .readChSlot7 _ _ _ => true
  | .writeChSlot8 _ _ _ _ => true
  | .readChSlot8 _ _ _ => true
  | .writeChSlot9 _ _ _ _ => true
  | .readChSlot9 _ _ _ => true
  | .writeChSlot10 _ _ _ _ => true
  | .readChSlot10 _ _ _ => true
  | .writeChSlot11 _ _ _ _ => true
  | .readChSlot11 _ _ _ => true
  | .writeChSlot12 _ _ _ _ => true
  | .readChSlot12 _ _ _ => true
  | .writeChSlot13 _ _ _ _ => true
  | .readChSlot13 _ _ _ => true
  | .writeChSlot14 _ _ _ _ => true
  | .readChSlot14 _ _ _ => true
  | .writeChSlot15 _ _ _ _ => true
  | .readChSlot15 _ _ _ => true
  | .writeChSlot16 _ _ _ _ => true
  | .readChSlot16 _ _ _ => true
  | .writeChSlot17 _ _ _ _ => true
  | .readChSlot17 _ _ _ => true
  | .writeChReserved18 _ _ k _ _ => decide (18 ≤ k.toNat ∧ k.toNat ≤ 19)
  | .readChReserved18 _ _ k _ => decide (18 ≤ k.toNat ∧ k.toNat ≤ 19)
  | .writeChReserved20 _ _ k _ _ => decide (20 ≤ k.toNat ∧ k.toNat ≤ 23)
  | .readChReserved20 _ _ k _ => decide (20 ≤ k.toNat ∧ k.toNat ≤ 23)
  | .writeChReserved24 _ _ k _ _ => decide (24 ≤ k.toNat ∧ k.toNat ≤ 31)
  | .readChReserved24 _ _ k _ => decide (24 ≤ k.toNat ∧ k.toNat ≤ 31)
  | .writeKyonexW16 _ d => d.getLsbD 15
  | .writeKyonexW32 _ d => d.getLsbD 15
  | .writeKyonexW8 _ d => d.getLsbD 7
  | .writeLforeW16 _ d => d.getLsbD 15
  | .writeLforeW32 _ d => d.getLsbD 15
  | .writeLforeW8 _ d => d.getLsbD 7
  | .writeEfsDsp _ _ _ _ => true
  | .readEfsDsp _ _ _ => true
  | .writeEfsCd _ _ _ _ => true
  | .readEfsCd _ _ _ => true
  | .writeMvol _ _ _ => true
  | .readMvol _ _ => true
  | .writeMslc _ _ _ => true
  | .readMslc _ _ => true
  | .writeStatus _ _ _ => true
  | .readStatus z b => !(decide (z ≠ .b1) && decide (b = 0))
  | .writeCa _ _ _ => true
  | .readCa _ _ => true
  | .readStatusClearing z => decide (z ≠ .b1)
  | .fmtPcm16 => true
  | .fmtPcm8 => true
  | .fmtAdpcm => true
  | .fmtAdpcmStream => true
  | .fmtNoise => true
  | .lfoSaw => true
  | .lfoSquare => true
  | .lfoTriangle => true
  | .lfoNoise => true
  | .sgcAttack => true
  | .sgcDecay1 => true
  | .sgcDecay2 => true
  | .sgcRelease => true

/-- An instruction is well formed when its row's conditions hold. -/
abbrev Instr.WellFormed (i : Instr) : Prop := i.wellFormed = true

end Sys2Proof
end

