-- ==== Sys2Proof/Decode.lean ====
section
/-! DEFINITION. The decoder, total on any bytes and rejecting by name, and after it the encoder, both written from
30_encoding.md R99 to R107 and the masks of spec/opcode_table.json. A word is carried least significant byte first
(notes/assumptions/2.md). -/

namespace Sys2Proof

/-- The `n` bits of `w` from bit `lo` up (00_scope.md R9, `v[hi:lo]`). -/
def bitsAt (w lo n : Nat) : Nat := w / 2 ^ lo % 2 ^ n

/-- The number that bytes stand for, the first byte least significant. -/
def ofLeBytes : List Byte → Nat
  | [] => 0
  | b :: bs => b.toNat + 256 * ofLeBytes bs

/-- The `n` low bytes of `w`, least significant first. -/
def leBytes : Nat → Nat → List Byte
  | 0, _ => []
  | n + 1, w => BitVec.ofNat 8 w :: leBytes n (w / 256)

/-- The size codes 00, 01 and 10; 11 is no size (30_encoding.md R106). -/
def Size.ofCode : Nat → Option Size
  | 0 => some .b1
  | 1 => some .b2
  | 2 => some .b4
  | _ => none

/-- The size code of a size (30_encoding.md R106). -/
def Size.code : Size → Nat
  | .b1 => 0
  | .b2 => 1
  | .b4 => 2

/-- The row of an ADPCM code (30_encoding.md R101). -/
def decodeAdpcm (w : Nat) : Instr :=
  match w with
  | 0 => .adpcm0
  | 1 => .adpcm1
  | 2 => .adpcm2
  | 3 => .adpcm3
  | 4 => .adpcm4
  | 5 => .adpcm5
  | 6 => .adpcm6
  | 7 => .adpcm7
  | 8 => .adpcm8
  | 9 => .adpcm9
  | 10 => .adpcmA
  | 11 => .adpcmB
  | 12 => .adpcmC
  | 13 => .adpcmD
  | 14 => .adpcmE
  | _ => .adpcmF

/-- The row of a READ (30_encoding.md R106): of the register the offset lies in, by the map of 20_memory.md R65, or the generic
one. -/
def decodeRead (z : Size) (a : Nat) : Instr :=
  let b := BitVec.ofNat 2 a
  if a < 0x2000 then
    let c := BitVec.ofNat 6 (a / 128)
    let k := BitVec.ofNat 5 (a / 4)
    match a / 4 % 32 with
    | 0 => .readChSlot0 z c b
    | 1 => .readChSlot1 z c b
    | 2 => .readChSlot2 z c b
    | 3 => .readChSlot3 z c b
    | 4 => .readChSlot4 z c b
    | 5 => .readChSlot5 z c b
    | 6 => .readChSlot6 z c b
    | 7 => .readChSlot7 z c b
    | 8 => .readChSlot8 z c b
    | 9 => .readChSlot9 z c b
    | 10 => .readChSlot10 z c b
    | 11 => .readChSlot11 z c b
    | 12 => .readChSlot12 z c b
    | 13 => .readChSlot13 z c b
    | 14 => .readChSlot14 z c b
    | 15 => .readChSlot15 z c b
    | 16 => .readChSlot16 z c b
    | 17 => .readChSlot17 z c b
    | 18 => .readChReserved18 z c k b
    | 19 => .readChReserved18 z c k b
    | 20 => .readChReserved20 z c k b
    | 21 => .readChReserved20 z c k b
    | 22 => .readChReserved20 z c k b
    | 23 => .readChReserved20 z c k b
    | _ => .readChReserved24 z c k b
  else if a < 0x2040 then .readEfsDsp z (BitVec.ofNat 4 (a / 4)) b
  else if a < 0x2048 then .readEfsCd z (BitVec.ofNat 1 (a / 4)) b
  else if a / 4 = 0xA00 then .readMvol z b
  else if a / 4 = 0xA03 then .readMslc z b
  else if a / 4 = 0xA04 then
    if z ≠ .b1 ∧ b = 0 then .readStatusClearing z else .readStatus z b
  else if a / 4 = 0xA05 then .readCa z b
  else .read z (BitVec.ofNat 16 a)

/-- The row of a slot 0 WRITE: a KYONEX row when it stores 1 into KYONEX (45_register_interface.md R294). -/
def decodeSlot0Write (z : Size) (c : Chan) (b : BitVec 2) (d : Word) : Instr :=
  if topBitWritten z b.toNat d then
    match z with
    | .b1 => .writeKyonexW8 c d
    | .b2 => .writeKyonexW16 c d
    | .b4 => .writeKyonexW32 c d
  else .writeChSlot0 z c b d

/-- The row of a slot 7 WRITE: an LFORE row when it stores 1 into LFORE (43_lfo.md R230). -/
def decodeSlot7Write (z : Size) (c : Chan) (b : BitVec 2) (d : Word) : Instr :=
  if topBitWritten z b.toNat d then
    match z with
    | .b1 => .writeLforeW8 c d
    | .b2 => .writeLforeW16 c d
    | .b4 => .writeLforeW32 c d
  else .writeChSlot7 z c b d

/-- The row of a WRITE (30_encoding.md R106): of the register the offset lies in, by the map of 20_memory.md R65, or the generic
one. -/
def decodeWrite (z : Size) (a : Nat) (d : Word) : Instr :=
  let b := BitVec.ofNat 2 a
  if a < 0x2000 then
    let c := BitVec.ofNat 6 (a / 128)
    let k := BitVec.ofNat 5 (a / 4)
    match a / 4 % 32 with
    | 0 => decodeSlot0Write z c b d
    | 1 => .writeChSlot1 z c b d
    | 2 => .writeChSlot2 z c b d
    | 3 => .writeChSlot3 z c b d
    | 4 => .writeChSlot4 z c b d
    | 5 => .writeChSlot5 z c b d
    | 6 => .writeChSlot6 z c b d
    | 7 => decodeSlot7Write z c b d
    | 8 => .writeChSlot8 z c b d
    | 9 => .writeChSlot9 z c b d
    | 10 => .writeChSlot10 z c b d
    | 11 => .writeChSlot11 z c b d
    | 12 => .writeChSlot12 z c b d
    | 13 => .writeChSlot13 z c b d
    | 14 => .writeChSlot14 z c b d
    | 15 => .writeChSlot15 z c b d
    | 16 => .writeChSlot16 z c b d
    | 17 => .writeChSlot17 z c b d
    | 18 => .writeChReserved18 z c k b d
    | 19 => .writeChReserved18 z c k b d
    | 20 => .writeChReserved20 z c k b d
    | 21 => .writeChReserved20 z c k b d
    | 22 => .writeChReserved20 z c k b d
    | 23 => .writeChReserved20 z c k b d
    | _ => .writeChReserved24 z c k b d
  else if a < 0x2040 then .writeEfsDsp z (BitVec.ofNat 4 (a / 4)) b d
  else if a < 0x2048 then .writeEfsCd z (BitVec.ofNat 1 (a / 4)) b d
  else if a / 4 = 0xA00 then .writeMvol z b d
  else if a / 4 = 0xA03 then .writeMslc z b d
  else if a / 4 = 0xA04 then .writeStatus z b d
  else if a / 4 = 0xA05 then .writeCa z b d
  else .write z (BitVec.ofNat 16 a) d

/-- A 52-bit host operation (30_encoding.md R106): `k` at bits 51:50, `z` at 49:48, `a` at 47:32, `d` at 31:0. A TICK's other
bits and a READ's data bits are ignored. -/
def decodeHostOp (w : Nat) : Instr :=
  match bitsAt w 50 2 with
  | 0 => .tick
  | 1 =>
    match Size.ofCode (bitsAt w 48 2) with
    | none => .readBadsize
    | some z => decodeRead z (bitsAt w 32 16)
  | 2 =>
    match Size.ofCode (bitsAt w 48 2) with
    | none => .writeBadsize
    | some z => decodeWrite z (bitsAt w 32 16) (BitVec.ofNat 32 w)
  | _ => .reservedOp

/-- The row of a slot 0 value's format code `(SSCTL, PCMS)` (30_encoding.md R81, R103). -/
def decodeFormatCode (w : Nat) : Instr :=
  if bitsAt w 10 1 = 1 then .fmtNoise
  else
    match bitsAt w 7 2 with
    | 0 => .fmtPcm16
    | 1 => .fmtPcm8
    | 2 => .fmtAdpcm
    | _ => .fmtAdpcmStream

/-- The row of a slot 7 value's amplitude waveform code ALFOWS (30_encoding.md R88, R104). -/
def decodeWaveCode (w : Nat) : Instr :=
  match bitsAt w 3 2 with
  | 0 => .lfoSaw
  | 1 => .lfoSquare
  | 2 => .lfoTriangle
  | _ => .lfoNoise

/-- The row of a status value's state code SGC (30_encoding.md R99, R105). -/
def decodeStateCode (w : Nat) : Instr :=
  match bitsAt w 13 2 with
  | 0 => .sgcAttack
  | 1 => .sgcDecay1
  | 2 => .sgcDecay2
  | _ => .sgcRelease

/-- The row that a word of a format stands for. -/
def decodeWord (f : WordFormat) (w : Nat) : Instr :=
  match f with
  | .adpcm4 => decodeAdpcm w
  | .hostop52 => decodeHostOp w
  | .slot0Reg16 => decodeFormatCode w
  | .slot7Reg16 => decodeWaveCode w
  | .statusReg16 => decodeStateCode w

/-- The number of significant bits of a format's words (30_encoding.md R101, R106, R80). -/
def WordFormat.width : WordFormat → Nat
  | .adpcm4 => 4
  | .hostop52 => 52
  | .slot0Reg16 => 16
  | .slot7Reg16 => 16
  | .statusReg16 => 16

/-- The decoder: the instruction that bytes of a stated format stand for, or the reason why they are no word of it. -/
def decode (f : WordFormat) (bs : List Byte) : Except DecodeError Instr :=
  if bs.length = f.bytes then
    if ofLeBytes bs < 2 ^ f.width then .ok (decodeWord f (ofLeBytes bs)) else .error .strayBits
  else .error .length

/-! The encoder. -/

/-- A host operation's word from its fields (30_encoding.md R106). -/
def hostWord (kind zcode a d : Nat) : Nat := kind * 2 ^ 50 + zcode * 2 ^ 48 + a * 2 ^ 32 + d

/-- The offset of byte `b` of channel `c`'s slot `k` (30_encoding.md R106: `a[12:7]`, `a[6:2]`, `a[1:0]`). -/
def chOffset (c : Chan) (k : Nat) (b : BitVec 2) : Nat := 128 * c.toNat + 4 * k + b.toNat

/-- The offset of byte `b` of the send slot `k` (30_encoding.md R99). -/
def efsOffset (k : Nat) (b : BitVec 2) : Nat := 0x2000 + 4 * k + b.toNat

/-- The word of a READ. -/
def readWord (z : Size) (a : Nat) : Nat := hostWord 1 z.code a 0

/-- The word of a WRITE. -/
def writeWord (z : Size) (a : Nat) (d : Word) : Nat := hostWord 2 z.code a d.toNat

/-- The word of an instruction, in its format. -/
def encodeWord : Instr → Nat
  | .adpcm0 => 0
  | .adpcm1 => 1
  | .adpcm2 => 2
  | .adpcm3 => 3
  | .adpcm4 => 4
  | .adpcm5 => 5
  | .adpcm6 => 6
  | .adpcm7 => 7
  | .adpcm8 => 8
  | .adpcm9 => 9
  | .adpcmA => 10
  | .adpcmB => 11
  | .adpcmC => 12
  | .adpcmD => 13
  | .adpcmE => 14
  | .adpcmF => 15
  | .tick => hostWord 0 0 0 0
  | .read z a => readWord z a.toNat
  | .write z a d => writeWord z a.toNat d
  | .reservedOp => hostWord 3 0 0 0
  | .readBadsize => hostWord 1 3 0 0
  | .writeBadsize => hostWord 2 3 0 0
  | .writeChSlot0 z c b d => writeWord z (chOffset c 0 b) d
  | .readChSlot0 z c b => readWord z (chOffset c 0 b)
  | .writeChSlot1 z c b d => writeWord z (chOffset c 1 b) d
  | .readChSlot1 z c b => readWord z (chOffset c 1 b)
  | .writeChSlot2 z c b d => writeWord z (chOffset c 2 b) d
  | .readChSlot2 z c b => readWord z (chOffset c 2 b)
  | .writeChSlot3 z c b d => writeWord z (chOffset c 3 b) d
  | .readChSlot3 z c b => readWord z (chOffset c 3 b)
  | .writeChSlot4 z c b d => writeWord z (chOffset c 4 b) d
  | .readChSlot4 z c b => readWord z (chOffset c 4 b)
  | .writeChSlot5 z c b d => writeWord z (chOffset c 5 b) d
  | .readChSlot5 z c b => readWord z (chOffset c 5 b)
  | .writeChSlot6 z c b d => writeWord z (chOffset c 6 b) d
  | .readChSlot6 z c b => readWord z (chOffset c 6 b)
  | .writeChSlot7 z c b d => writeWord z (chOffset c 7 b) d
  | .readChSlot7 z c b => readWord z (chOffset c 7 b)
  | .writeChSlot8 z c b d => writeWord z (chOffset c 8 b) d
  | .readChSlot8 z c b => readWord z (chOffset c 8 b)
  | .writeChSlot9 z c b d => writeWord z (chOffset c 9 b) d
  | .readChSlot9 z c b => readWord z (chOffset c 9 b)
  | .writeChSlot10 z c b d => writeWord z (chOffset c 10 b) d
  | .readChSlot10 z c b => readWord z (chOffset c 10 b)
  | .writeChSlot11 z c b d => writeWord z (chOffset c 11 b) d
  | .readChSlot11 z c b => readWord z (chOffset c 11 b)
  | .writeChSlot12 z c b d => writeWord z (chOffset c 12 b) d
  | .readChSlot12 z c b => readWord z (chOffset c 12 b)
  | .writeChSlot13 z c b d => writeWord z (chOffset c 13 b) d
  | .readChSlot13 z c b => readWord z (chOffset c 13 b)
  | .writeChSlot14 z c b d => writeWord z (chOffset c 14 b) d
  | .readChSlot14 z c b => readWord z (chOffset c 14 b)
  | .writeChSlot15 z c b d => writeWord z (chOffset c 15 b) d
  | .readChSlot15 z c b => readWord z (chOffset c 15 b)
  | .writeChSlot16 z c b d => writeWord z (chOffset c 16 b) d
  | .readChSlot16 z c b => readWord z (chOffset c 16 b)
  | .writeChSlot17 z c b d => writeWord z (chOffset c 17 b) d
  | .readChSlot17 z c b => readWord z (chOffset c 17 b)
  | .writeChReserved18 z c k b d => writeWord z (chOffset c k.toNat b) d
  | .readChReserved18 z c k b => readWord z (chOffset c k.toNat b)
  | .writeChReserved20 z c k b d => writeWord z (chOffset c k.toNat b) d
  | .readChReserved20 z c k b => readWord z (chOffset c k.toNat b)
  | .writeChReserved24 z c k b d => writeWord z (chOffset c k.toNat b) d
  | .readChReserved24 z c k b => readWord z (chOffset c k.toNat b)
  | .writeKyonexW16 c d => writeWord .b2 (chOffset c 0 0) d
  | .writeKyonexW32 c d => writeWord .b4 (chOffset c 0 0) d
  | .writeKyonexW8 c d => writeWord .b1 (chOffset c 0 1) d
  | .writeLforeW16 c d => writeWord .b2 (chOffset c 7 0) d
  | .writeLforeW32 c d => writeWord .b4 (chOffset c 7 0) d
  | .writeLforeW8 c d => writeWord .b1 (chOffset c 7 1) d
  | .writeEfsDsp z k b d => writeWord z (efsOffset k.toNat b) d
  | .readEfsDsp z k b => readWord z (efsOffset k.toNat b)
  | .writeEfsCd z k b d => writeWord z (efsOffset (16 + k.toNat) b) d
  | .readEfsCd z k b => readWord z (efsOffset (16 + k.toNat) b)
  | .writeMvol z b d => writeWord z (0x2800 + b.toNat) d
  | .readMvol z b => readWord z (0x2800 + b.toNat)
  | .writeMslc z b d => writeWord z (0x280C + b.toNat) d
  | .readMslc z b => readWord z (0x280C + b.toNat)
  | .writeStatus z b d => writeWord z (0x2810 + b.toNat) d
  | .readStatus z b => readWord z (0x2810 + b.toNat)
  | .writeCa z b d => writeWord z (0x2814 + b.toNat) d
  | .readCa z b => readWord z (0x2814 + b.toNat)
  | .readStatusClearing z => readWord z 0x2810
  | .fmtPcm16 => 0x0
  | .fmtPcm8 => 0x80
  | .fmtAdpcm => 0x100
  | .fmtAdpcmStream => 0x180
  | .fmtNoise => 0x400
  | .lfoSaw => 0x0
  | .lfoSquare => 0x8
  | .lfoTriangle => 0x10
  | .lfoNoise => 0x18
  | .sgcAttack => 0x0
  | .sgcDecay1 => 0x2000
  | .sgcDecay2 => 0x4000
  | .sgcRelease => 0x6000

/-- The bytes of an instruction's word, least significant first. -/
def encode (i : Instr) : List Byte := leBytes i.format.bytes (encodeWord i)

/-! The opcode table's words, which carry no format (notes/assumptions/5.md). -/

/-- The format taken for a word that the opcode table gives in `nbits` bits. One byte is an ADPCM code, or a slot 7 value where
it has a bit above bit 3; two bytes are the register whose code field is not zero, tried in the table's order, and slot 0 where
all three are zero; more is a host operation. -/
def tableFormat (nbits w : Nat) : WordFormat :=
  if nbits ≤ 8 then
    if w < 16 then .adpcm4 else .slot7Reg16
  else if nbits ≤ 16 then
    if bitsAt w 7 2 ≠ 0 ∨ bitsAt w 10 1 ≠ 0 then .slot0Reg16
    else if bitsAt w 3 2 ≠ 0 then .slot7Reg16
    else if bitsAt w 13 2 ≠ 0 then .statusReg16
    else .slot0Reg16
  else .hostop52

/-- The bytes of a word of the opcode table, as many as its format carries; a word too large for them keeps one byte more, which
the decoder refuses. -/
def tableBytes (nbits w : Nat) : List Byte :=
  let n := (tableFormat nbits w).bytes
  if w < 256 ^ n then leBytes n w else leBytes (n + 1) w

/-- The instruction that the decoder reads from a word numbered as spec/opcode_table.json numbers it. -/
def decodeTableWord (nbits w : Nat) : Option Instr :=
  match decode (tableFormat nbits w) (tableBytes nbits w) with
  | .ok i => some i
  | .error _ => none

end Sys2Proof
end

