-- ==== Sys2Proof/Machine/RegisterRead.lean ====
section
/-! DEFINITION. READ (45_register_interface.md R297) and the READ rows. -/

namespace Sys2Proof.Machine

/-- `StatusClear`: the looped flag of channel MSLC cleared by a clearing status READ (45_register_interface.md R299). -/
def State.statusClear (s : State) (z : Size) (a : Nat) : State :=
  if statusClears z a then s.setChan s.regs.mslc { s.chan s.regs.mslc with looped := false } else s

/-- `READ(size, a)`: refused, or the value returned, after which the status clears (45_register_interface.md R297, R302). -/
def hostRead (z : Size) (a : Nat) (s : State) : Host.Outcome State Fault Refusal :=
  match accessRefusal z a with
  | some r => refuse r
  | none => .next { s.statusClear z a with readData := s.readBytes a z.bytes }

/-- `READ`. READ of `z` at offset `a` (45_register_interface.md R297): the row for the offsets that no register row describes. -/
def execRead (z : Size) (a : Half) (s : State) : Host.Outcome State Fault Refusal :=
  hostRead z a.toNat s

/-- `READ_CH_SLOT0_KYONB_SSCTL_LPCTL_PCMS_SA_HI`. READ at byte `b` of channel `c`'s slot 0: KYONEX, KYONB, SSCTL, LPCTL, PCMS, SA[22:16] (30_encoding.md R81). -/
def execReadChSlot0 (z : Size) (c : Chan) (b : BitVec 2) (s : State) : Host.Outcome State Fault Refusal :=
  hostRead z (chOffset c 0 b) s

/-- `READ_CH_SLOT1_SA_LO`. READ at byte `b` of channel `c`'s slot 1: SA[15:0] (30_encoding.md R82). -/
def execReadChSlot1 (z : Size) (c : Chan) (b : BitVec 2) (s : State) : Host.Outcome State Fault Refusal :=
  hostRead z (chOffset c 1 b) s

/-- `READ_CH_SLOT2_LSA`. READ at byte `b` of channel `c`'s slot 2: LSA (30_encoding.md R83). -/
def execReadChSlot2 (z : Size) (c : Chan) (b : BitVec 2) (s : State) : Host.Outcome State Fault Refusal :=
  hostRead z (chOffset c 2 b) s

/-- `READ_CH_SLOT3_LEA`. READ at byte `b` of channel `c`'s slot 3: LEA (30_encoding.md R84). -/
def execReadChSlot3 (z : Size) (c : Chan) (b : BitVec 2) (s : State) : Host.Outcome State Fault Refusal :=
  hostRead z (chOffset c 3 b) s

/-- `READ_CH_SLOT4_D2R_D1R_AR`. READ at byte `b` of channel `c`'s slot 4: D2R, D1R, AR (30_encoding.md R85). -/
def execReadChSlot4 (z : Size) (c : Chan) (b : BitVec 2) (s : State) : Host.Outcome State Fault Refusal :=
  hostRead z (chOffset c 4 b) s

/-- `READ_CH_SLOT5_LPSLNK_KRS_DL_RR`. READ at byte `b` of channel `c`'s slot 5: LPSLNK, KRS, DL, RR (30_encoding.md R86). -/
def execReadChSlot5 (z : Size) (c : Chan) (b : BitVec 2) (s : State) : Host.Outcome State Fault Refusal :=
  hostRead z (chOffset c 5 b) s

/-- `READ_CH_SLOT6_OCT_FNS`. READ at byte `b` of channel `c`'s slot 6: OCT, FNS (30_encoding.md R87). -/
def execReadChSlot6 (z : Size) (c : Chan) (b : BitVec 2) (s : State) : Host.Outcome State Fault Refusal :=
  hostRead z (chOffset c 6 b) s

/-- `READ_CH_SLOT7_LFO`. READ at byte `b` of channel `c`'s slot 7: LFORE, LFOF, PLFOWS, PLFOS, ALFOWS, ALFOS (30_encoding.md R88). -/
def execReadChSlot7 (z : Size) (c : Chan) (b : BitVec 2) (s : State) : Host.Outcome State Fault Refusal :=
  hostRead z (chOffset c 7 b) s

/-- `READ_CH_SLOT8_IMXL_ISEL`. READ at byte `b` of channel `c`'s slot 8: IMXL, ISEL (30_encoding.md R89). -/
def execReadChSlot8 (z : Size) (c : Chan) (b : BitVec 2) (s : State) : Host.Outcome State Fault Refusal :=
  hostRead z (chOffset c 8 b) s

/-- `READ_CH_SLOT9_DISDL_DIPAN`. READ at byte `b` of channel `c`'s slot 9: DISDL, DIPAN (30_encoding.md R90). -/
def execReadChSlot9 (z : Size) (c : Chan) (b : BitVec 2) (s : State) : Host.Outcome State Fault Refusal :=
  hostRead z (chOffset c 9 b) s

/-- `READ_CH_SLOT10_TL_VOFF_LPOFF_Q`. READ at byte `b` of channel `c`'s slot 10: TL, VOFF, LPOFF, Q (30_encoding.md R91). -/
def execReadChSlot10 (z : Size) (c : Chan) (b : BitVec 2) (s : State) : Host.Outcome State Fault Refusal :=
  hostRead z (chOffset c 10 b) s

/-- `READ_CH_SLOT11_FLV0`. READ at byte `b` of channel `c`'s slot 11: FLV0 (30_encoding.md R92). -/
def execReadChSlot11 (z : Size) (c : Chan) (b : BitVec 2) (s : State) : Host.Outcome State Fault Refusal :=
  hostRead z (chOffset c 11 b) s

/-- `READ_CH_SLOT12_FLV1`. READ at byte `b` of channel `c`'s slot 12: FLV1 (30_encoding.md R93). -/
def execReadChSlot12 (z : Size) (c : Chan) (b : BitVec 2) (s : State) : Host.Outcome State Fault Refusal :=
  hostRead z (chOffset c 12 b) s

/-- `READ_CH_SLOT13_FLV2`. READ at byte `b` of channel `c`'s slot 13: FLV2 (30_encoding.md R94). -/
def execReadChSlot13 (z : Size) (c : Chan) (b : BitVec 2) (s : State) : Host.Outcome State Fault Refusal :=
  hostRead z (chOffset c 13 b) s

/-- `READ_CH_SLOT14_FLV3`. READ at byte `b` of channel `c`'s slot 14: FLV3 (30_encoding.md R95). -/
def execReadChSlot14 (z : Size) (c : Chan) (b : BitVec 2) (s : State) : Host.Outcome State Fault Refusal :=
  hostRead z (chOffset c 14 b) s

/-- `READ_CH_SLOT15_FLV4`. READ at byte `b` of channel `c`'s slot 15: FLV4 (30_encoding.md R96). -/
def execReadChSlot15 (z : Size) (c : Chan) (b : BitVec 2) (s : State) : Host.Outcome State Fault Refusal :=
  hostRead z (chOffset c 15 b) s

/-- `READ_CH_SLOT16_FAR_FD1R`. READ at byte `b` of channel `c`'s slot 16: FAR, FD1R (30_encoding.md R97). -/
def execReadChSlot16 (z : Size) (c : Chan) (b : BitVec 2) (s : State) : Host.Outcome State Fault Refusal :=
  hostRead z (chOffset c 16 b) s

/-- `READ_CH_SLOT17_FD2R_FRR`. READ at byte `b` of channel `c`'s slot 17: FD2R, FRR (30_encoding.md R98). -/
def execReadChSlot17 (z : Size) (c : Chan) (b : BitVec 2) (s : State) : Host.Outcome State Fault Refusal :=
  hostRead z (chOffset c 17 b) s

/-- `READ_CH_RESERVED_SLOTS_18_19`. READ at byte `b` of channel `c`'s reserved slot `k`, 18 to 19 (30_encoding.md R107). -/
def execReadChReserved18 (z : Size) (c : Chan) (k : BitVec 5) (b : BitVec 2) (s : State) : Host.Outcome State Fault Refusal :=
  hostRead z (chOffset c k.toNat b) s

/-- `READ_CH_RESERVED_SLOTS_20_23`. READ at byte `b` of channel `c`'s reserved slot `k`, 20 to 23 (30_encoding.md R107). -/
def execReadChReserved20 (z : Size) (c : Chan) (k : BitVec 5) (b : BitVec 2) (s : State) : Host.Outcome State Fault Refusal :=
  hostRead z (chOffset c k.toNat b) s

/-- `READ_CH_RESERVED_SLOTS_24_31`. READ at byte `b` of channel `c`'s reserved slot `k`, 24 to 31 (30_encoding.md R107). -/
def execReadChReserved24 (z : Size) (c : Chan) (k : BitVec 5) (b : BitVec 2) (s : State) : Host.Outcome State Fault Refusal :=
  hostRead z (chOffset c k.toNat b) s

/-- `READ_EFSDL_EFPAN_DSP_0_15`. READ of EFSDL[k], EFPAN[k], k = 0..15 (30_encoding.md R99). -/
def execReadEfsDsp (z : Size) (k : BitVec 4) (b : BitVec 2) (s : State) : Host.Outcome State Fault Refusal :=
  hostRead z (efsOffset k.toNat b) s

/-- `READ_EFSDL_EFPAN_CD_16_17`. READ of EFSDL, EFPAN of the CD input 16 + `k` (30_encoding.md R99). -/
def execReadEfsCd (z : Size) (k : BitVec 1) (b : BitVec 2) (s : State) : Host.Outcome State Fault Refusal :=
  hostRead z (efsOffset (16 + k.toNat) b) s

/-- `READ_MONO_DAC18B_MVOL`. READ at byte `b` of 0x2800: MONO, MEM8MB, DAC18B, VER, MVOL (30_encoding.md R99). -/
def execReadMvol (z : Size) (b : BitVec 2) (s : State) : Host.Outcome State Fault Refusal :=
  hostRead z (0x2800 + b.toNat) s

/-- `READ_AFSET_MSLC`. READ at byte `b` of 0x280C: AFSET, MSLC (30_encoding.md R99). -/
def execReadMslc (z : Size) (b : BitVec 2) (s : State) : Host.Outcome State Fault Refusal :=
  hostRead z (0x280C + b.toNat) s

/-- `READ_STATUS`. READ at byte `b` of 0x2810: the status register (LP, SGC, EG) (30_encoding.md R99). All such READs but those of `readStatusClearing`. -/
def execReadStatus (z : Size) (b : BitVec 2) (s : State) : Host.Outcome State Fault Refusal :=
  hostRead z (0x2810 + b.toNat) s

/-- `READ_CA`. READ at byte `b` of 0x2814: the current-play-address register (30_encoding.md R99). -/
def execReadCa (z : Size) (b : BitVec 2) (s : State) : Host.Outcome State Fault Refusal :=
  hostRead z (0x2814 + b.toNat) s

/-- `READ_STATUS_CLEARING`. The 2- or 4-byte READ at 0x2810, which clears the looped flag (45_register_interface.md R299). -/
def execReadStatusClearing (z : Size) (s : State) : Host.Outcome State Fault Refusal :=
  hostRead z 0x2810 s

/-- `READ_BADSIZE`: size code 11, `refuse bad_op` (45_register_interface.md R302). -/
def execReadBadsize (_s : State) : Host.Outcome State Fault Refusal := refuse .badOp

end Sys2Proof.Machine
end

