-- ==== Sys2Proof/Machine/KeyOn.lean ====
section
/-! DEFINITION. Key-on and key-off, and the side effects of a WRITE (45_register_interface.md R292 to R296). -/

namespace Sys2Proof.Machine

/-- `KeyOn(ch)` (45_register_interface.md R295; 42_envelope.md R191; 41_stream.md R165). -/
def Channel.keyOn (ch : Channel) (ln : Lane) : Channel :=
  if ch.aegState = .release then
    Channel.fetch
      (Channel.adpcmReset
        { ch with enabled := true, aegState := .attack, aegFp := aegKeyonValue * 2 ^ aegStepBits, fegState := .attack,
                  ca := 0, frac := 0, looped := false })
      ln 0 true
  else ch

/-- `KeyOff(ch)` (45_register_interface.md R296). -/
def Channel.keyOff (ch : Channel) : Channel :=
  if ch.aegState = .release then ch else { ch with aegState := .release, fegState := .release }

/-- Key-on or key-off of one channel, by its KYONB (45_register_interface.md R294). -/
def Channel.keyExecute (ch : Channel) (ln : Lane) : Channel := if ln.kyonb then ch.keyOn ln else ch.keyOff

/-- The key-on-execute action on the channels 0 to `n - 1` (45_register_interface.md R294). -/
def State.keyUpTo (s : State) : Nat → State
  | 0 => s
  | n + 1 =>
    let t := s.keyUpTo n
    let c := BitVec.ofNat 6 n
    t.setChan c ((t.chan c).keyExecute (t.lane c))

/-- KYONEX of channel `c`'s slot 0: the action on all 64 channels, then the bit clears itself (45_register_interface.md R292,
R294). -/
def State.kyonexAction (s : State) (c : Chan) : State :=
  let t := s.keyUpTo nch
  { t with regs := clearTopBit t.regs c 0 }

/-- The LFO update of a WRITE that stored a byte of channel `c`'s slot 7, after which LFORE is stored back as 0
(43_lfo.md R229, R230; 45_register_interface.md R292). -/
def State.lfoWriteAction (s : State) (c : Chan) (lfore : Bool) : State :=
  let t := s.setChan c ((s.chan c).lfoWrite (s.lane c) lfore)
  if lfore then { t with regs := clearTopBit t.regs c 7 } else t

/-- `SideEffects`: what a WRITE does after its bytes are stored (45_register_interface.md R292, R293). -/
def State.sideEffects (s : State) (z : Size) (a : Nat) (d : Word) : State :=
  if a < 0x2000 then
    let c := BitVec.ofNat 6 (a / 128)
    if a / 4 % 32 = 7 ∧ slotByteStored (a % 4) then s.lfoWriteAction c (topBitStored z (a % 4) d)
    else if a / 4 % 32 = 0 ∧ topBitStored z (a % 4) d then s.kyonexAction c
    else s
  else s

end Sys2Proof.Machine
end

