-- ==== Sys2Proof/Machine/RegisterWrite.lean ====
section
/-! DEFINITION. WRITE (45_register_interface.md R291) and the WRITE rows. -/

namespace Sys2Proof.Machine

/-- `WRITE(size, a, d)`: refused, or the bytes stored and then the side effects (45_register_interface.md R291, R302). -/
def hostWrite (z : Size) (a : Nat) (d : Word) (s : State) : Host.Outcome State Fault Refusal :=
  match accessRefusal z a with
  | some r => refuse r
  | none => .next (State.sideEffects { s with regs := storeBytes s.regs a d z.bytes } z a d)

/-- `WRITE`. WRITE of `d` at offset `a` (45_register_interface.md R291): the row for the offsets that no register row describes. -/
def execWrite (z : Size) (a : Half) (d : Word) (s : State) : Host.Outcome State Fault Refusal :=
  hostWrite z a.toNat d s

/-- `WRITE_CH_SLOT0_KYONB_SSCTL_LPCTL_PCMS_SA_HI`. WRITE at byte `b` of channel `c`'s slot 0: KYONEX, KYONB, SSCTL, LPCTL, PCMS, SA[22:16] (30_encoding.md R81). -/
def execWriteChSlot0 (z : Size) (c : Chan) (b : BitVec 2) (d : Word) (s : State) : Host.Outcome State Fault Refusal :=
  hostWrite z (chOffset c 0 b) d s

/-- `WRITE_CH_SLOT1_SA_LO`. WRITE at byte `b` of channel `c`'s slot 1: SA[15:0] (30_encoding.md R82). -/
def execWriteChSlot1 (z : Size) (c : Chan) (b : BitVec 2) (d : Word) (s : State) : Host.Outcome State Fault Refusal :=
  hostWrite z (chOffset c 1 b) d s

/-- `WRITE_CH_SLOT2_LSA`. WRITE at byte `b` of channel `c`'s slot 2: LSA (30_encoding.md R83). -/
def execWriteChSlot2 (z : Size) (c : Chan) (b : BitVec 2) (d : Word) (s : State) : Host.Outcome State Fault Refusal :=
  hostWrite z (chOffset c 2 b) d s

/-- `WRITE_CH_SLOT3_LEA`. WRITE at byte `b` of channel `c`'s slot 3: LEA (30_encoding.md R84). -/
def execWriteChSlot3 (z : Size) (c : Chan) (b : BitVec 2) (d : Word) (s : State) : Host.Outcome State Fault Refusal :=
  hostWrite z (chOffset c 3 b) d s

/-- `WRITE_CH_SLOT4_D2R_D1R_AR`. WRITE at byte `b` of channel `c`'s slot 4: D2R, D1R, AR (30_encoding.md R85). -/
def execWriteChSlot4 (z : Size) (c : Chan) (b : BitVec 2) (d : Word) (s : State) : Host.Outcome State Fault Refusal :=
  hostWrite z (chOffset c 4 b) d s

/-- `WRITE_CH_SLOT5_LPSLNK_KRS_DL_RR`. WRITE at byte `b` of channel `c`'s slot 5: LPSLNK, KRS, DL, RR (30_encoding.md R86). -/
def execWriteChSlot5 (z : Size) (c : Chan) (b : BitVec 2) (d : Word) (s : State) : Host.Outcome State Fault Refusal :=
  hostWrite z (chOffset c 5 b) d s

/-- `WRITE_CH_SLOT6_OCT_FNS`. WRITE at byte `b` of channel `c`'s slot 6: OCT, FNS (30_encoding.md R87). -/
def execWriteChSlot6 (z : Size) (c : Chan) (b : BitVec 2) (d : Word) (s : State) : Host.Outcome State Fault Refusal :=
  hostWrite z (chOffset c 6 b) d s

/-- `WRITE_CH_SLOT7_LFO`. WRITE at byte `b` of channel `c`'s slot 7: LFORE, LFOF, PLFOWS, PLFOS, ALFOWS, ALFOS (30_encoding.md R88). -/
def execWriteChSlot7 (z : Size) (c : Chan) (b : BitVec 2) (d : Word) (s : State) : Host.Outcome State Fault Refusal :=
  hostWrite z (chOffset c 7 b) d s

/-- `WRITE_CH_SLOT8_IMXL_ISEL`. WRITE at byte `b` of channel `c`'s slot 8: IMXL, ISEL (30_encoding.md R89). -/
def execWriteChSlot8 (z : Size) (c : Chan) (b : BitVec 2) (d : Word) (s : State) : Host.Outcome State Fault Refusal :=
  hostWrite z (chOffset c 8 b) d s

/-- `WRITE_CH_SLOT9_DISDL_DIPAN`. WRITE at byte `b` of channel `c`'s slot 9: DISDL, DIPAN (30_encoding.md R90). -/
def execWriteChSlot9 (z : Size) (c : Chan) (b : BitVec 2) (d : Word) (s : State) : Host.Outcome State Fault Refusal :=
  hostWrite z (chOffset c 9 b) d s

/-- `WRITE_CH_SLOT10_TL_VOFF_LPOFF_Q`. WRITE at byte `b` of channel `c`'s slot 10: TL, VOFF, LPOFF, Q (30_encoding.md R91). -/
def execWriteChSlot10 (z : Size) (c : Chan) (b : BitVec 2) (d : Word) (s : State) : Host.Outcome State Fault Refusal :=
  hostWrite z (chOffset c 10 b) d s

/-- `WRITE_CH_SLOT11_FLV0`. WRITE at byte `b` of channel `c`'s slot 11: FLV0 (30_encoding.md R92). -/
def execWriteChSlot11 (z : Size) (c : Chan) (b : BitVec 2) (d : Word) (s : State) : Host.Outcome State Fault Refusal :=
  hostWrite z (chOffset c 11 b) d s

/-- `WRITE_CH_SLOT12_FLV1`. WRITE at byte `b` of channel `c`'s slot 12: FLV1 (30_encoding.md R93). -/
def execWriteChSlot12 (z : Size) (c : Chan) (b : BitVec 2) (d : Word) (s : State) : Host.Outcome State Fault Refusal :=
  hostWrite z (chOffset c 12 b) d s

/-- `WRITE_CH_SLOT13_FLV2`. WRITE at byte `b` of channel `c`'s slot 13: FLV2 (30_encoding.md R94). -/
def execWriteChSlot13 (z : Size) (c : Chan) (b : BitVec 2) (d : Word) (s : State) : Host.Outcome State Fault Refusal :=
  hostWrite z (chOffset c 13 b) d s

/-- `WRITE_CH_SLOT14_FLV3`. WRITE at byte `b` of channel `c`'s slot 14: FLV3 (30_encoding.md R95). -/
def execWriteChSlot14 (z : Size) (c : Chan) (b : BitVec 2) (d : Word) (s : State) : Host.Outcome State Fault Refusal :=
  hostWrite z (chOffset c 14 b) d s

/-- `WRITE_CH_SLOT15_FLV4`. WRITE at byte `b` of channel `c`'s slot 15: FLV4 (30_encoding.md R96). -/
def execWriteChSlot15 (z : Size) (c : Chan) (b : BitVec 2) (d : Word) (s : State) : Host.Outcome State Fault Refusal :=
  hostWrite z (chOffset c 15 b) d s

/-- `WRITE_CH_SLOT16_FAR_FD1R`. WRITE at byte `b` of channel `c`'s slot 16: FAR, FD1R (30_encoding.md R97). -/
def execWriteChSlot16 (z : Size) (c : Chan) (b : BitVec 2) (d : Word) (s : State) : Host.Outcome State Fault Refusal :=
  hostWrite z (chOffset c 16 b) d s

/-- `WRITE_CH_SLOT17_FD2R_FRR`. WRITE at byte `b` of channel `c`'s slot 17: FD2R, FRR (30_encoding.md R98). -/
def execWriteChSlot17 (z : Size) (c : Chan) (b : BitVec 2) (d : Word) (s : State) : Host.Outcome State Fault Refusal :=
  hostWrite z (chOffset c 17 b) d s

/-- `WRITE_CH_RESERVED_SLOTS_18_19`. WRITE at byte `b` of channel `c`'s reserved slot `k`, 18 to 19 (30_encoding.md R107). -/
def execWriteChReserved18 (z : Size) (c : Chan) (k : BitVec 5) (b : BitVec 2) (d : Word) (s : State) : Host.Outcome State Fault Refusal :=
  hostWrite z (chOffset c k.toNat b) d s

/-- `WRITE_CH_RESERVED_SLOTS_20_23`. WRITE at byte `b` of channel `c`'s reserved slot `k`, 20 to 23 (30_encoding.md R107). -/
def execWriteChReserved20 (z : Size) (c : Chan) (k : BitVec 5) (b : BitVec 2) (d : Word) (s : State) : Host.Outcome State Fault Refusal :=
  hostWrite z (chOffset c k.toNat b) d s

/-- `WRITE_CH_RESERVED_SLOTS_24_31`. WRITE at byte `b` of channel `c`'s reserved slot `k`, 24 to 31 (30_encoding.md R107). -/
def execWriteChReserved24 (z : Size) (c : Chan) (k : BitVec 5) (b : BitVec 2) (d : Word) (s : State) : Host.Outcome State Fault Refusal :=
  hostWrite z (chOffset c k.toNat b) d s

/-- `WRITE_KYONEX_W16`. The 16-bit WRITE that stores 1 into KYONEX of channel `c`'s slot 0 (45_register_interface.md R294). -/
def execWriteKyonexW16 (c : Chan) (d : Word) (s : State) : Host.Outcome State Fault Refusal :=
  hostWrite .b2 (chOffset c 0 0) d s

/-- `WRITE_KYONEX_W32`. The 32-bit WRITE that stores 1 into KYONEX of channel `c`'s slot 0 (45_register_interface.md R294). -/
def execWriteKyonexW32 (c : Chan) (d : Word) (s : State) : Host.Outcome State Fault Refusal :=
  hostWrite .b4 (chOffset c 0 0) d s

/-- `WRITE_KYONEX_W8`. The 8-bit WRITE that stores 1 into KYONEX of channel `c`'s slot 0 (45_register_interface.md R294). -/
def execWriteKyonexW8 (c : Chan) (d : Word) (s : State) : Host.Outcome State Fault Refusal :=
  hostWrite .b1 (chOffset c 0 1) d s

/-- `WRITE_LFORE_W16`. The 16-bit WRITE that stores 1 into LFORE of channel `c`'s slot 7 (43_lfo.md R230). -/
def execWriteLforeW16 (c : Chan) (d : Word) (s : State) : Host.Outcome State Fault Refusal :=
  hostWrite .b2 (chOffset c 7 0) d s

/-- `WRITE_LFORE_W32`. The 32-bit WRITE that stores 1 into LFORE of channel `c`'s slot 7 (43_lfo.md R230). -/
def execWriteLforeW32 (c : Chan) (d : Word) (s : State) : Host.Outcome State Fault Refusal :=
  hostWrite .b4 (chOffset c 7 0) d s

/-- `WRITE_LFORE_W8`. The 8-bit WRITE that stores 1 into LFORE of channel `c`'s slot 7 (43_lfo.md R230). -/
def execWriteLforeW8 (c : Chan) (d : Word) (s : State) : Host.Outcome State Fault Refusal :=
  hostWrite .b1 (chOffset c 7 1) d s

/-- `WRITE_EFSDL_EFPAN_DSP_0_15`. WRITE of EFSDL[k], EFPAN[k], k = 0..15, which only the out-of-scope DSP uses (30_encoding.md R99, R107). -/
def execWriteEfsDsp (z : Size) (k : BitVec 4) (b : BitVec 2) (d : Word) (s : State) : Host.Outcome State Fault Refusal :=
  hostWrite z (efsOffset k.toNat b) d s

/-- `WRITE_EFSDL_EFPAN_CD_16_17`. WRITE of EFSDL, EFPAN of the CD input 16 + `k` (44_channel_mix.md R265). -/
def execWriteEfsCd (z : Size) (k : BitVec 1) (b : BitVec 2) (d : Word) (s : State) : Host.Outcome State Fault Refusal :=
  hostWrite z (efsOffset (16 + k.toNat) b) d s

/-- `WRITE_MONO_DAC18B_MVOL`. WRITE at byte `b` of 0x2800: MONO, MEM8MB, DAC18B, VER, MVOL (30_encoding.md R99). -/
def execWriteMvol (z : Size) (b : BitVec 2) (d : Word) (s : State) : Host.Outcome State Fault Refusal :=
  hostWrite z (0x2800 + b.toNat) d s

/-- `WRITE_AFSET_MSLC`. WRITE at byte `b` of 0x280C: AFSET, MSLC (30_encoding.md R99). -/
def execWriteMslc (z : Size) (b : BitVec 2) (d : Word) (s : State) : Host.Outcome State Fault Refusal :=
  hostWrite z (0x280C + b.toNat) d s

/-- `WRITE_STATUS`. WRITE at byte `b` of 0x2810: the status register (LP, SGC, EG) (30_encoding.md R99). Accepted and ignored (45_register_interface.md R304). -/
def execWriteStatus (z : Size) (b : BitVec 2) (d : Word) (s : State) : Host.Outcome State Fault Refusal :=
  hostWrite z (0x2810 + b.toNat) d s

/-- `WRITE_CA`. WRITE at byte `b` of 0x2814: the current-play-address register (30_encoding.md R99). Accepted and ignored (45_register_interface.md R304). -/
def execWriteCa (z : Size) (b : BitVec 2) (d : Word) (s : State) : Host.Outcome State Fault Refusal :=
  hostWrite z (0x2814 + b.toNat) d s

/-- `WRITE_BADSIZE`: size code 11, `refuse bad_op` (45_register_interface.md R302). -/
def execWriteBadsize (_s : State) : Host.Outcome State Fault Refusal := refuse .badOp

/-- `RESERVED_OP`: kind code 11, `refuse bad_op` (45_register_interface.md R302). -/
def execReservedOp (_s : State) : Host.Outcome State Fault Refusal := refuse .badOp

end Sys2Proof.Machine
end

