-- ==== Sys2Proof/Machine/Dispatch.lean ====
section
/-! DEFINITION. The dispatch: one arm per row of the opcode table, each one direct call of its meaning. -/

namespace Sys2Proof.Machine

def exec (i : Instr) (s : State) : Host.Outcome State Fault Refusal :=
  match i with
  | .adpcm0 => Sys2Proof.Machine.execAdpcm0 s
  | .adpcm1 => Sys2Proof.Machine.execAdpcm1 s
  | .adpcm2 => Sys2Proof.Machine.execAdpcm2 s
  | .adpcm3 => Sys2Proof.Machine.execAdpcm3 s
  | .adpcm4 => Sys2Proof.Machine.execAdpcm4 s
  | .adpcm5 => Sys2Proof.Machine.execAdpcm5 s
  | .adpcm6 => Sys2Proof.Machine.execAdpcm6 s
  | .adpcm7 => Sys2Proof.Machine.execAdpcm7 s
  | .adpcm8 => Sys2Proof.Machine.execAdpcm8 s
  | .adpcm9 => Sys2Proof.Machine.execAdpcm9 s
  | .adpcmA => Sys2Proof.Machine.execAdpcmA s
  | .adpcmB => Sys2Proof.Machine.execAdpcmB s
  | .adpcmC => Sys2Proof.Machine.execAdpcmC s
  | .adpcmD => Sys2Proof.Machine.execAdpcmD s
  | .adpcmE => Sys2Proof.Machine.execAdpcmE s
  | .adpcmF => Sys2Proof.Machine.execAdpcmF s
  | .tick => Sys2Proof.Machine.execTick s
  | .read z a => Sys2Proof.Machine.execRead z a s
  | .write z a d => Sys2Proof.Machine.execWrite z a d s
  | .reservedOp => Sys2Proof.Machine.execReservedOp s
  | .readBadsize => Sys2Proof.Machine.execReadBadsize s
  | .writeBadsize => Sys2Proof.Machine.execWriteBadsize s
  | .writeChSlot0 z c b d => Sys2Proof.Machine.execWriteChSlot0 z c b d s
  | .readChSlot0 z c b => Sys2Proof.Machine.execReadChSlot0 z c b s
  | .writeChSlot1 z c b d => Sys2Proof.Machine.execWriteChSlot1 z c b d s
  | .readChSlot1 z c b => Sys2Proof.Machine.execReadChSlot1 z c b s
  | .writeChSlot2 z c b d => Sys2Proof.Machine.execWriteChSlot2 z c b d s
  | .readChSlot2 z c b => Sys2Proof.Machine.execReadChSlot2 z c b s
  | .writeChSlot3 z c b d => Sys2Proof.Machine.execWriteChSlot3 z c b d s
  | .readChSlot3 z c b => Sys2Proof.Machine.execReadChSlot3 z c b s
  | .writeChSlot4 z c b d => Sys2Proof.Machine.execWriteChSlot4 z c b d s
  | .readChSlot4 z c b => Sys2Proof.Machine.execReadChSlot4 z c b s
  | .writeChSlot5 z c b d => Sys2Proof.Machine.execWriteChSlot5 z c b d s
  | .readChSlot5 z c b => Sys2Proof.Machine.execReadChSlot5 z c b s
  | .writeChSlot6 z c b d => Sys2Proof.Machine.execWriteChSlot6 z c b d s
  | .readChSlot6 z c b => Sys2Proof.Machine.execReadChSlot6 z c b s
  | .writeChSlot7 z c b d => Sys2Proof.Machine.execWriteChSlot7 z c b d s
  | .readChSlot7 z c b => Sys2Proof.Machine.execReadChSlot7 z c b s
  | .writeChSlot8 z c b d => Sys2Proof.Machine.execWriteChSlot8 z c b d s
  | .readChSlot8 z c b => Sys2Proof.Machine.execReadChSlot8 z c b s
  | .writeChSlot9 z c b d => Sys2Proof.Machine.execWriteChSlot9 z c b d s
  | .readChSlot9 z c b => Sys2Proof.Machine.execReadChSlot9 z c b s
  | .writeChSlot10 z c b d => Sys2Proof.Machine.execWriteChSlot10 z c b d s
  | .readChSlot10 z c b => Sys2Proof.Machine.execReadChSlot10 z c b s
  | .writeChSlot11 z c b d => Sys2Proof.Machine.execWriteChSlot11 z c b d s
  | .readChSlot11 z c b => Sys2Proof.Machine.execReadChSlot11 z c b s
  | .writeChSlot12 z c b d => Sys2Proof.Machine.execWriteChSlot12 z c b d s
  | .readChSlot12 z c b => Sys2Proof.Machine.execReadChSlot12 z c b s
  | .writeChSlot13 z c b d => Sys2Proof.Machine.execWriteChSlot13 z c b d s
  | .readChSlot13 z c b => Sys2Proof.Machine.execReadChSlot13 z c b s
  | .writeChSlot14 z c b d => Sys2Proof.Machine.execWriteChSlot14 z c b d s
  | .readChSlot14 z c b => Sys2Proof.Machine.execReadChSlot14 z c b s
  | .writeChSlot15 z c b d => Sys2Proof.Machine.execWriteChSlot15 z c b d s
  | .readChSlot15 z c b => Sys2Proof.Machine.execReadChSlot15 z c b s
  | .writeChSlot16 z c b d => Sys2Proof.Machine.execWriteChSlot16 z c b d s
  | .readChSlot16 z c b => Sys2Proof.Machine.execReadChSlot16 z c b s
  | .writeChSlot17 z c b d => Sys2Proof.Machine.execWriteChSlot17 z c b d s
  | .readChSlot17 z c b => Sys2Proof.Machine.execReadChSlot17 z c b s
  | .writeChReserved18 z c k b d => Sys2Proof.Machine.execWriteChReserved18 z c k b d s
  | .readChReserved18 z c k b => Sys2Proof.Machine.execReadChReserved18 z c k b s
  | .writeChReserved20 z c k b d => Sys2Proof.Machine.execWriteChReserved20 z c k b d s
  | .readChReserved20 z c k b => Sys2Proof.Machine.execReadChReserved20 z c k b s
  | .writeChReserved24 z c k b d => Sys2Proof.Machine.execWriteChReserved24 z c k b d s
  | .readChReserved24 z c k b => Sys2Proof.Machine.execReadChReserved24 z c k b s
  | .writeKyonexW16 c d => Sys2Proof.Machine.execWriteKyonexW16 c d s
  | .writeKyonexW32 c d => Sys2Proof.Machine.execWriteKyonexW32 c d s
  | .writeKyonexW8 c d => Sys2Proof.Machine.execWriteKyonexW8 c d s
  | .writeLforeW16 c d => Sys2Proof.Machine.execWriteLforeW16 c d s
  | .writeLforeW32 c d => Sys2Proof.Machine.execWriteLforeW32 c d s
  | .writeLforeW8 c d => Sys2Proof.Machine.execWriteLforeW8 c d s
  | .writeEfsDsp z k b d => Sys2Proof.Machine.execWriteEfsDsp z k b d s
  | .readEfsDsp z k b => Sys2Proof.Machine.execReadEfsDsp z k b s
  | .writeEfsCd z k b d => Sys2Proof.Machine.execWriteEfsCd z k b d s
  | .readEfsCd z k b => Sys2Proof.Machine.execReadEfsCd z k b s
  | .writeMvol z b d => Sys2Proof.Machine.execWriteMvol z b d s
  | .readMvol z b => Sys2Proof.Machine.execReadMvol z b s
  | .writeMslc z b d => Sys2Proof.Machine.execWriteMslc z b d s
  | .readMslc z b => Sys2Proof.Machine.execReadMslc z b s
  | .writeStatus z b d => Sys2Proof.Machine.execWriteStatus z b d s
  | .readStatus z b => Sys2Proof.Machine.execReadStatus z b s
  | .writeCa z b d => Sys2Proof.Machine.execWriteCa z b d s
  | .readCa z b => Sys2Proof.Machine.execReadCa z b s
  | .readStatusClearing z => Sys2Proof.Machine.execReadStatusClearing z s
  | .fmtPcm16 => Sys2Proof.Machine.execFmtPcm16 s
  | .fmtPcm8 => Sys2Proof.Machine.execFmtPcm8 s
  | .fmtAdpcm => Sys2Proof.Machine.execFmtAdpcm s
  | .fmtAdpcmStream => Sys2Proof.Machine.execFmtAdpcmStream s
  | .fmtNoise => Sys2Proof.Machine.execFmtNoise s
  | .lfoSaw => Sys2Proof.Machine.execLfoSaw s
  | .lfoSquare => Sys2Proof.Machine.execLfoSquare s
  | .lfoTriangle => Sys2Proof.Machine.execLfoTriangle s
  | .lfoNoise => Sys2Proof.Machine.execLfoNoise s
  | .sgcAttack => Sys2Proof.Machine.execSgcAttack s
  | .sgcDecay1 => Sys2Proof.Machine.execSgcDecay1 s
  | .sgcDecay2 => Sys2Proof.Machine.execSgcDecay2 s
  | .sgcRelease => Sys2Proof.Machine.execSgcRelease s

end Sys2Proof.Machine
end

