-- ==== Sys2Proof/Machine/Inbox.lean ====
section
/-! DEFINITION. How the block takes what the host has issued (20_memory.md R68, R69; notes/assumptions/1.md). -/

namespace Sys2Proof.Machine

/-- The refusal that the configuration itself calls for: HACK_MIX set (42_envelope.md R193, 60_exceptions.md R332). -/
def State.configRefusal (s : State) : Option Refusal := if s.cfg.hackMix then some .hackMixUndefined else none

/-- Whether the step performs an operation of a format: a host operation always, since "A model's step relation has exactly the
three operations" (45_register_interface.md R290); a channel's row on its own where `bench` is set (notes/assumptions/6.md). -/
def State.admits (s : State) (f : WordFormat) : Bool := s.bench || decide (f = .hostop52)

/-- The state in which the first issued operation is performed: it has left the queue and its inputs stand. -/
def State.latch (s : State) (inp : Inputs) (rest : List Request) : State := { s with inbox := rest, inp := inp }

/-- The host writes a byte of wave memory (20_memory.md R60, R62); past the end of wave memory there is none to write
(notes/assumptions/11.md). -/
def State.pokeWave (s : State) (a : Nat) (v : Byte) (rest : List Request) : Host.Outcome State Fault Refusal :=
  if a < aramSize then .next { s with inbox := rest, wave := s.wave.write a v } else refuse .waveOutOfRange

end Sys2Proof.Machine
end

