-- ==== Sys2Proof/Machine/Step.lean ====
section
/-! DEFINITION. The step: the next operation the host has issued is performed whole (20_memory.md R68, R69), and between operations
nothing changes (45_register_interface.md R305). The operations are TICK, READ and WRITE (R290). -/

namespace Sys2Proof.Machine

/-- One step. With no operation issued the block waits, unchanged (45_register_interface.md R305, 70_reset_and_hazards.md R361). -/
def step (s : State) : Host.Outcome State Fault Refusal :=
  match s.configRefusal with
  | some r => refuse r
  | none =>
    match s.inbox with
    | [] => .next s
    | .poke a v :: rest => s.pokeWave a v rest
    | .op f bs inp :: rest =>
      if s.admits f then
        match decode f bs with
        | .error e => refuse (.badWord e)
        | .ok i => exec i (s.latch inp rest)
      else refuse .notHostOperation

/-- The state with an opcode-table word issued as the next operation, with the inputs that stand (notes/assumptions/1.md). A word
of a channel's row also sets `bench`, without which the step does not perform it (notes/assumptions/6.md). -/
def State.withFetchWord (s : State) (nbits w : Nat) : State :=
  { s with bench := s.bench || decide (tableFormat nbits w ≠ .hostop52)
           inbox := .op (tableFormat nbits w) (tableBytes nbits w) s.inp :: s.inbox }

end Sys2Proof.Machine
end

