-- ==== Sys2Proof/Safety.lean ====
section
/-! DEFINITION. What holds of every state the block can be in (10_state.md R31 to R33 and the storage rules of 20_memory.md R66), and
which queues hold only what a host of the real block can issue. -/

namespace Sys2Proof.Machine

/-- A mathematical integer in the s16 range (00_scope.md R8). -/
abbrev inS16 (v : Int) : Prop := -32768 ≤ v ∧ v ≤ 32767

/-- The bounds of a channel's dynamic state (10_state.md R23, R31 to R33; 43_lfo.md R222 for the two outputs). -/
structure Channel.Inv (ch : Channel) : Prop where
  /-- `aeg_fp` is at most 1023·2^B, so V is at most 1023 (R31). -/
  env : ch.aegFp ≤ aegMax
  /-- A disabled channel is in Release at V = 1023 (R32). -/
  disabled : ch.enabled = false → ch.aegState = .release ∧ ch.envValue = 1023
  /-- CA is a 16-bit address (R23). -/
  ca : ch.ca ≤ 0xFFFF
  /-- `s0` is an s16 (R33). -/
  s0 : inS16 ch.s0
  /-- `s1` is an s16 (R33). -/
  s1 : inS16 ch.s1
  /-- The quantizer step is in [0x7F, 0x6000] (R33). -/
  q : 0x7F ≤ ch.q ∧ ch.q ≤ 0x6000
  /-- The LFO counter is in [1, 1020] (R33). -/
  lfo : 1 ≤ ch.lfoCounter ∧ ch.lfoCounter ≤ 1020
  /-- The amplitude output is at most 127 (43_lfo.md R222). -/
  alfo : ch.alfo.toNat ≤ 127
  /-- The pitch output is at most 127 (43_lfo.md R222). -/
  plfo : ch.plfo.toNat ≤ 127

/-- The invariant of the machine. -/
structure State.Inv (s : State) : Prop where
  /-- The register bytes are in canonical form. -/
  regsWf : s.regs.wf = true
  /-- Wave memory is in canonical form. -/
  waveWf : s.wave.wf = true
  /-- Only offsets that hold a byte are listed: mapped, in a lower half slot, and no status register (20_memory.md R66). -/
  regsStored : ∀ o, s.regByte o ≠ 0 → byteStored o = true ∧ mapped o = true
  /-- Wave memory is listed inside its size (20_memory.md R60). -/
  waveInside : ∀ a, s.waveByte a ≠ 0 → a < aramSize
  /-- KYONEX reads 0 (45_register_interface.md R294). -/
  kyonex : ∀ c, (s.lane c).kyonex = false
  /-- LFORE reads 0 (43_lfo.md R230). -/
  lfore : ∀ c, (s.lane c).lfore = false
  /-- Every channel is within its bounds. -/
  chans : ∀ c, (s.chan c).Inv

/-- A request that a host of the real block can issue: a host operation or a write of wave memory (00_scope.md R5, R6), and not one
of the channel's rows on its own, which the step takes only where `bench` is set (notes/assumptions/6.md). -/
def Request.fromHost : Request → Bool
  | .op .hostop52 _ _ => true
  | .op _ _ _ => false
  | .poke _ _ => true

/-- A queue that a host of the real block can issue. -/
def State.hostOnly (s : State) : Bool := s.inbox.all Request.fromHost

end Sys2Proof.Machine
end

