-- ==== Sys2Proof/Certificates/Slice0/Obligations.lean ====
section
/-! DEFINITION. The statements for the provers, from the numbered rules of spec/. -/

open Sys2Proof Sys2Proof.Machine

/-- Thirteen words, with the bits that R106, R101, R81, R88 and R99 give them (program P1's words among them), decode to the
instructions they stand for. R106 numbers bits and gives no bytes: the bytes, least significant first, are the model's choice
(notes/assumptions/2.md), and so is the row taken where rows of the table overlap, for the KYONEX, LFORE and status READ words
and for the generic READ (notes/assumptions/3.md, 4.md). It also rests on clauses of R81, R88, R99 that the spec marks as its
own inference.
(R101, R106, notes/assumptions/2.md, notes/assumptions/3.md, notes/assumptions/4.md, 30_encoding.md.) -/
def Obligations.SampleWordsDecode : Prop :=
  decode .hostop52 [0x00, 0x00, 0x00, 0x00, 0x00, 0x00, 0x00] = .ok .tick ∧
  decode .hostop52 [0x00, 0x10, 0x00, 0x00, 0x04, 0x00, 0x09] = .ok (.writeChSlot1 .b2 0 0 0x1000) ∧
  decode .hostop52 [0x00, 0x0F, 0x00, 0x00, 0xA4, 0x01, 0x09] = .ok (.writeChSlot9 .b2 3 0 0x0F00) ∧
  decode .hostop52 [0x00, 0xC2, 0x00, 0x00, 0x00, 0x00, 0x09] = .ok (.writeKyonexW16 0 0xC200) ∧
  decode .hostop52 [0x07, 0xFC, 0x00, 0x00, 0x1C, 0x00, 0x09] = .ok (.writeLforeW16 0 0xFC07) ∧
  decode .hostop52 [0x0F, 0x00, 0x00, 0x00, 0x00, 0x28, 0x09] = .ok (.writeMvol .b2 0 0x000F) ∧
  decode .hostop52 [0x00, 0x00, 0x00, 0x00, 0x10, 0x28, 0x04] = .ok (.readStatus .b1 0) ∧
  decode .hostop52 [0x00, 0x00, 0x00, 0x00, 0x10, 0x28, 0x05] = .ok (.readStatusClearing .b2) ∧
  decode .hostop52 [0x00, 0x00, 0x00, 0x00, 0x00, 0x30, 0x05] = .ok (.read .b2 0x3000) ∧
  decode .adpcm4 [0x0D] = .ok .adpcmD ∧
  decode .slot0Reg16 [0x80, 0x01] = .ok .fmtAdpcmStream ∧
  decode .slot7Reg16 [0x07, 0x7C] = .ok .lfoSaw ∧
  decode .statusReg16 [0xFF, 0x63] = .ok .sgcRelease

/-- For every well-formed instruction i of all 96 rows, with every operand at every value the encoding admits, the decoder reads i
from the bytes that encode i, in i's own format.
(30_encoding.md, R101, R106.) -/
def Obligations.DecodeOfEncodeIsTheInstruction : Prop :=
  ∀ i : Instr, i.WellFormed → decode i.format (encode i) = .ok i

/-- Whatever bytes the decoder accepts, the instruction it answers meets its row's conditions and belongs to the format the bytes
were given in.
(30_encoding.md, R106, notes/assumptions/3.md.) -/
def Obligations.DecodedInstructionsAreWellFormed : Prop :=
  ∀ (f : WordFormat) (bs : List Byte) (i : Instr), decode f bs = .ok i → i.WellFormed ∧ i.format = f

/-- For every size code, offset and data value: a kind 00 word is TICK whatever its other bits, and a READ word with any data bits
is the operation with data bits 0.
(R106.) -/
def Obligations.IgnoredBitsDoNotMatter : Prop :=
  ∀ zc a d : Nat, zc < 4 → a < 0x10000 → d < 2 ^ 32 →
    decodeHostOp (0 * 2 ^ 50 + zc * 2 ^ 48 + a * 2 ^ 32 + d) = .tick ∧
    decodeHostOp (1 * 2 ^ 50 + zc * 2 ^ 48 + a * 2 ^ 32 + d) = decodeHostOp (1 * 2 ^ 50 + zc * 2 ^ 48 + a * 2 ^ 32)

/-- For every size, 16-bit offset, data and state, running the row the decoder picks for a READ or WRITE at that offset gives the
same outcome (next state or refusal) as the generic READ or WRITE at that offset.
(R106, R291, R297.) -/
def Obligations.RegisterRowsRefineTheGenericRows : Prop :=
  ∀ (z : Size) (a : Half) (d : Word) (s : State),
    exec (decodeRead z a.toNat) s = exec (.read z a) s ∧ exec (decodeWrite z a.toNat d) s = exec (.write z a d) s

/-- When the configuration is not refused, the next request is a host operation (or bench is set) and its bytes decode to i, the
step is exec of i at the state in which the request has left the queue and its inputs stand. A table word issued with
withFetchWord is run by the next step, at the state itself but for bench, which is set for a word that is no host operation. The
queue and bench are the model's choice (notes/assumptions/1.md, 6.md).
(R68, R69, notes/assumptions/1.md, notes/assumptions/6.md.) -/
def Obligations.StepRunsTheDecodedRequest : Prop :=
  (∀ (s : State) (f : WordFormat) (bs : List Byte) (inp : Inputs) (rest : List Request) (i : Instr),
    s.cfg.hackMix = false → (f = .hostop52 ∨ s.bench = true) → s.inbox = .op f bs inp :: rest → decode f bs = .ok i →
    step s = exec i { s with inbox := rest, inp := inp }) ∧
  (∀ (s : State) (n w : Nat) (i : Instr), s.cfg.hackMix = false → decodeTableWord n w = some i →
    step (s.withFetchWord n w) = exec i { s with bench := s.bench || decide (i.format ≠ .hostop52) })

/-- With an empty queue (and a configuration that is not refused) the step answers the same state.
(R305, R361, notes/assumptions/1.md.) -/
def Obligations.IdleStepChangesNothing : Prop :=
  ∀ s : State, s.cfg.hackMix = false → s.inbox = [] → step s = .next s

/-- Every step of a state configured with HACK_MIX is refused with hack_mix_undefined, and HACK_MIX is false at reset. That the
refusal stands at the step is the model's choice (notes/assumptions/12.md).
(R193, R332, notes/assumptions/12.md.) -/
def Obligations.HackMixConfigurationIsRefused : Prop :=
  (∀ s : State, s.cfg.hackMix = true → step s = .refused .hackMixUndefined) ∧ State.reset.cfg.hackMix = false

/-- A step that takes a host write of byte v at address a inside wave memory answers the state with the request gone and wave memory
changed so that address a reads v and every other address reads as before; outside wave memory it is refused (the model's
choice, notes/assumptions/11.md). It also rests on clauses of R60, R62 that the spec marks as its own inference.
(notes/assumptions/11.md, 20_memory.md.) -/
def Obligations.HostWaveWriteIsSeenAtOnce : Prop :=
  ∀ (s : State) (a : Nat) (v : Byte) (rest : List Request), s.cfg.hackMix = false → s.inbox = .poke a v :: rest →
    (a < 0x200000 → ∃ m : Memory, step s = .next { s with inbox := rest, wave := m } ∧
      ∀ b, m.read b = if b = a then v else s.waveByte b) ∧
    (0x200000 ≤ a → step s = .refused .waveOutOfRange)

/-- State.Inv holds at State.reset. It also rests on clauses of R32, R33 that the spec marks as its own inference.
(R31, R36, 10_state.md.) -/
def Obligations.PowerOnStateIsInBounds : Prop :=
  State.reset.Inv

/-- For every state in the invariant (canonical memories; register bytes only where a byte is held; KYONEX and LFORE read 0; per
channel V at most 1023, disabled implies Release at V = 1023, CA in 16 bits, s0 and s1 in s16, q in [0x7F, 0x6000], lfo_counter
in [1, 1020], alfo and plfo at most 127), whatever the next request is, a next state is in the invariant. It also rests on
clauses of R23, R32, R33, R66, R222 that the spec marks as its own inference.
(R31, R230, R294, 10_state.md, 20_memory.md, 43_lfo.md.) -/
def Obligations.EveryStepKeepsTheBounds : Prop :=
  ∀ s t : State, s.Inv → step s = .next t → t.Inv

/-- Whatever a step does, the configuration after it is the one before it; the six toggles are false at reset.
(R27.) -/
def Obligations.ConfigurationIsReadOnly : Prop :=
  (∀ s t : State, step s = .next t → t.cfg = s.cfg) ∧
  State.reset.cfg.hackMix = false ∧ State.reset.cfg.hackD1D2 = false ∧ State.reset.cfg.audioOutOff = false ∧
  State.reset.cfg.noBatch = false ∧ State.reset.cfg.cdMute = false ∧ State.reset.cfg.dspEnable = false

/-- For every instruction and state, a next state's wave memory is the one before: only a host write, which is no instruction,
changes it. It also rests on clauses of R60 that the spec marks as its own inference.
(20_memory.md.) -/
def Obligations.BlockNeverWritesWaveMemory : Prop :=
  ∀ (i : Instr) (s t : State), exec i s = .next t → t.wave = s.wave

/-- An instruction whose word is not a host operation of kind 10 leaves every byte of the register space as it was.
(R28, R297.) -/
def Obligations.OnlyWritesChangeRegisters : Prop :=
  ∀ (i : Instr) (s t : State), ¬(i.format = .hostop52 ∧ encodeWord i / 2 ^ 50 = 2) → exec i s = .next t →
    ∀ o, t.regByte o = s.regByte o

/-- At reset every register byte is 0 and every channel has the reset column of R23.
(R36.) -/
def Obligations.ResetValuesOfThePowerOnState : Prop :=
  (∀ o, State.reset.regByte o = 0) ∧
  (∀ c : Chan, (State.reset.chan c).enabled = false ∧ (State.reset.chan c).aegState = .release ∧
    (State.reset.chan c).aegFp = 1023 * 2 ^ 16 ∧ (State.reset.chan c).fegState = .release ∧
    (State.reset.chan c).ca = 0 ∧ (State.reset.chan c).frac = 0 ∧ (State.reset.chan c).s0 = 0 ∧
    (State.reset.chan c).s1 = 0 ∧ (State.reset.chan c).looped = false ∧ (State.reset.chan c).q = 0x7F ∧
    (State.reset.chan c).noise = 0 ∧ (State.reset.chan c).lfoCounter = 1020 ∧ (State.reset.chan c).lfoPhase = 0 ∧
    (State.reset.chan c).alfo = 0 ∧ (State.reset.chan c).plfo = 0) ∧
  State.reset.regs.mvol = 0 ∧ aegAttSteps.length = 64 ∧ aegDsrSteps.length = 64 ∧
  attRows.length = 256 ∧ (∀ i, 256 ≤ i → attLut i = 0) ∧ mvolLut State.reset.regs.mvol = 0

/-- At reset with any inputs, a TICK answers the frame (0, 0) with zero auxiliary sums; an aligned READ of any mapped offset but the
status register returns 0 and changes nothing else; every aligned READ of the status register, of 1, 2 or 4 bytes, returns its
bytes of 0x63FF (0xFF at 0x2810, 0x63 at 0x2811, 0 in the upper half) and changes nothing else. It also rests on clauses of R362
that the spec marks as its own inference.
(70_reset_and_hazards.md.) -/
def Obligations.WhatAHostSeesRightAfterReset : Prop :=
  (∀ inp : Inputs, ∃ t, exec .tick { State.reset with inp := inp } = .next t ∧ t.frame = Frame.zero) ∧
  (∀ (z : Size) (a : Half), a.toNat % z.bytes = 0 → (a.toNat < 0x2048 ∨ (0x2800 ≤ a.toNat ∧ a.toNat ≤ 0x2803) ∨ (0x280C ≤ a.toNat ∧ a.toNat ≤ 0x2817)) →
    ¬(0x2810 ≤ a.toNat ∧ a.toNat ≤ 0x2813) → exec (.read z a) State.reset = .next { State.reset with readData := 0 }) ∧
  (∀ (z : Size) (a : Half), a.toNat % z.bytes = 0 → 0x2810 ≤ a.toNat → a.toNat ≤ 0x2813 → exec (.read z a) State.reset =
    .next { State.reset with readData := BitVec.ofNat 32 (0x63FF / 256 ^ (a.toNat - 0x2810) % 256 ^ z.bytes) }) ∧
  exec (.readStatusClearing .b2) State.reset = .next { State.reset with readData := 0x63FF }

/-- For every code c, previous sample and step q, with m = c[2:0]: the difference is floor(q(2m+1)/8) clamped to 0x7FFF, negated
when c[3] is 1, added to the previous sample and clipped to 16 bits; the new step is floor(q ADPCM_QS[m] / 256) clamped to
[0x7F, 0x6000], whatever the sign.
(R122, R123, R124, R125.) -/
def Obligations.AdpcmDecodeMeetsItsRules : Prop :=
  ∀ (c : BitVec 4) (prev : Int) (q : Nat),
    (adpcmDecode c prev q).1 =
      max (-32768) (min 32767 (if 8 ≤ c.toNat then prev - min (q * (2 * (c.toNat % 8) + 1) / 8) 0x7FFF
        else prev + min (q * (2 * (c.toNat % 8) + 1) / 8) 0x7FFF)) ∧
    (adpcmDecode c prev q).2 =
      max 0x7F (min 0x6000 (q * adpcmQs (c.toNat % 8) / 256))

/-- With a committed decode selected, each code row answers the state in which only s0 and q of the channel being processed have
changed: s0 by the code's signed, clamped difference and q by its step factor. That a row runs on its own, on the channel the
inputs name, disabled or not, is the model's choice (notes/assumptions/6.md, 7.md, 26.md).
(R120, R122, R123, R124, R125, R127, notes/assumptions/6.md, notes/assumptions/7.md, notes/assumptions/26.md.) -/
def Obligations.CommittedAdpcmCodesDecode : Prop :=
  ∀ s : State, s.inp.lookahead = false →
    ∀ row ∈ ([(.adpcm0, 0, false), (.adpcm1, 1, false), (.adpcm2, 2, false), (.adpcm3, 3, false), (.adpcm4, 4, false), (.adpcm5, 5, false), (.adpcm6, 6, false), (.adpcm7, 7, false),
      (.adpcm8, 0, true), (.adpcm9, 1, true), (.adpcmA, 2, true), (.adpcmB, 3, true), (.adpcmC, 4, true), (.adpcmD, 5, true), (.adpcmE, 6, true), (.adpcmF, 7, true)] :
        List (Instr × Nat × Bool)),
      let ch := s.chan s.inp.channel
      let d : Int := min ((ch.q : Int) * (2 * row.2.1 + 1) / 8) 0x7FFF
      exec row.1 s = .next (s.setChan s.inp.channel
        { ch with
          s0 := max (-32768) (min 32767 (if row.2.2 then ch.s0 - d else ch.s0 + d))
          q := max 0x7F (min 0x6000 (ch.q * [230, 230, 230, 230, 307, 409, 512, 614].getD row.2.1 0 / 256)) })

/-- With a lookahead decode selected, each code row answers the state in which only s1 of the channel being processed has changed,
to the sample a committed decode of that code would give. That a row runs on its own, on a channel disabled or not, is the
model's choice (notes/assumptions/6.md, 7.md, 26.md).
(R127, notes/assumptions/6.md, notes/assumptions/7.md, notes/assumptions/26.md.) -/
def Obligations.LookaheadAdpcmCodesOnlyFillS1 : Prop :=
  ∀ s : State, s.inp.lookahead = true →
    ∀ row ∈ ([(.adpcm0, 0x0), (.adpcm1, 0x1), (.adpcm2, 0x2), (.adpcm3, 0x3), (.adpcm4, 0x4), (.adpcm5, 0x5), (.adpcm6, 0x6), (.adpcm7, 0x7),
      (.adpcm8, 0x8), (.adpcm9, 0x9), (.adpcmA, 0xA), (.adpcmB, 0xB), (.adpcmC, 0xC), (.adpcmD, 0xD), (.adpcmE, 0xE), (.adpcmF, 0xF)] :
        List (Instr × BitVec 4)),
      exec row.1 s = .next (s.setChan s.inp.channel
        { s.chan s.inp.channel with
          s1 := (adpcmDecode row.2 (s.chan s.inp.channel).s0 (s.chan s.inp.channel).q).1 })

/-- For a step in [0x7F, 0x6000]: the 0x7FFF clamp does not act for m at most 4, and for m = 5, 6, 7 it changes the magnitude
exactly from q = 23832, 20165, 17477; the next step is the lower bound 0x7F for m at most 3 exactly when q is at most 142, and
the upper bound 0x6000 for m = 4, 5, 6, 7 exactly from q = 20494, 15383, 12288, 10247.
(R130, R133, R134, R135, R136, R137.) -/
def Obligations.AdpcmCornerCases : Prop :=
  ∀ q : Nat, 0x7F ≤ q → q ≤ 0x6000 →
    (∀ m, m ≤ 4 → adpcmMagnitude m q = q * (2 * m + 1) / 8) ∧
    (adpcmMagnitude 5 q ≠ q * 11 / 8 ↔ 23832 ≤ q) ∧ (adpcmMagnitude 6 q ≠ q * 13 / 8 ↔ 20165 ≤ q) ∧
    (adpcmMagnitude 7 q ≠ q * 15 / 8 ↔ 17477 ≤ q) ∧
    (∀ m, m ≤ 3 → (adpcmNextStep m q = 0x7F ↔ q ≤ 142)) ∧
    (adpcmNextStep 4 q = 0x6000 ↔ 20494 ≤ q) ∧ (adpcmNextStep 5 q = 0x6000 ↔ 15383 ≤ q) ∧
    (adpcmNextStep 6 q = 0x6000 ↔ 12288 ≤ q) ∧ (adpcmNextStep 7 q = 0x6000 ↔ 10247 ≤ q)

/-- UpdateRate is (1024 + FNS) times 2^OCT for OCT below 8 and (1024 + FNS) divided by 2^(16 - OCT), floored, otherwise; it lies in
[4, 262016], and one tick crosses at most 256 samples. It also rests on clauses of R150, R169 that the spec marks as its own
inference.
(41_stream.md.) -/
def Obligations.PitchStepLaw : Prop :=
  ∀ ln : Lane,
    (ln.oct.toNat < 8 → ln.updateRate = (1024 + ln.fns.toNat) * 2 ^ ln.oct.toNat) ∧
    (8 ≤ ln.oct.toNat → ln.updateRate = (1024 + ln.fns.toNat) / 2 ^ (16 - ln.oct.toNat)) ∧
    4 ≤ ln.updateRate ∧ ln.updateRate ≤ 262016 ∧ ∀ frac : BitVec 10, (frac.toNat + ln.updateRate) / 1024 ≤ 256

/-- For every channel: the stream step sets frac to frac + UpdateRate modulo 1024 and then runs floor((frac + UpdateRate) / 1024)
increments in order, of which only the final one is marked last. If the samples crossed do not bring CA up to LEA, then after
the step CA and frac together are the old position plus UpdateRate, and the channel's enabled and looped flags and its envelope
value are unchanged.
(R151, R152, R154, R159.) -/
def Obligations.PositionAdvancesByTheUpdateRate : Prop :=
  ∀ (ch : Channel) (ln : Lane),
    let acc := ch.frac.toNat + ln.updateRate
    let start : Channel := { ch with frac := BitVec.ofNat 10 (acc % 1024) }
    (ch.streamStep ln = if acc / 1024 = 0 then start
      else ((fun x : Channel => x.streamCross ln false)^[acc / 1024 - 1] start).streamCross ln true) ∧
    (ch.ca + acc / 1024 < ln.lea.toNat →
      (ch.streamStep ln).ca * 1024 + (ch.streamStep ln).frac.toNat = ch.ca * 1024 + ch.frac.toNat + ln.updateRate ∧
      (ch.streamStep ln).enabled = ch.enabled ∧ (ch.streamStep ln).looped = ch.looped ∧
      (ch.streamStep ln).aegFp = ch.aegFp)

/-- For every channel and increment, with ca = CA + 1: if the compare address (ca, rounded down to a multiple of 4 in the ADPCM
stream format) has reached LEA then looped is set and CA is LSA, and with LPCTL = 0 the channel is disabled in Release at V =
1023 while with LPCTL = 1 enabled and the envelope value stay; otherwise CA is ca and enabled, looped and the envelope value
stay. At the new CA, a, the fetch loads: PCM and noise samples only on the last increment (PCM a and a + 1, the next two of the
noise generator, which advances once); in the two ADPCM formats always the committed code of a, and on the last increment the
lookahead of a + 1; the decoder starts from (0, 0x7F) at a loop end of the one-shot ADPCM format with LPCTL and
ADPCM_LOOP_RESET, from (s0, q) otherwise. frac, the filter state and the LFO are kept. It also rests on clauses of R161, R164
that the spec marks as its own inference.
(R152, R154, R155, R156, R157, R159, R160, R162, R163, R168, 41_stream.md.) -/
def Obligations.LoopEndOfAnIncrement : Prop :=
  ∀ (ch : Channel) (ln : Lane) (last : Bool),
    let cmp := if ln.format = .adpcmStream then (ch.ca + 1) / 4 * 4 else ch.ca + 1
    let t := ch.streamCross ln last
    let a := if ln.lea.toNat ≤ cmp then ln.lsa.toNat else ch.ca + 1
    let fresh : Bool := ln.lpctl && ln.cfg.adpcmLoopReset && decide (ln.format = .adpcm) && decide (ln.lea.toNat ≤ cmp)
    let r := adpcmDecode (ln.adpcmCode a) (if fresh then 0 else ch.s0) (if fresh then 0x7F else ch.q)
    (ln.lea.toNat ≤ cmp → t.looped = true ∧ t.ca = ln.lsa.toNat ∧
      (ln.lpctl = false → t.enabled = false ∧ t.aegState = .release ∧ t.aegFp = 1023 * 2 ^ 16) ∧
      (ln.lpctl = true → t.enabled = ch.enabled ∧ t.aegFp = ch.aegFp)) ∧
    (cmp < ln.lea.toNat → t.looped = ch.looped ∧ t.ca = ch.ca + 1 ∧ t.enabled = ch.enabled ∧ t.aegFp = ch.aegFp) ∧
    (ln.format = .pcm16 → t.q = ch.q ∧ t.noise = ch.noise ∧
      t.s0 = (if last then ln.pcm16Sample a else ch.s0) ∧ t.s1 = if last then ln.pcm16Sample (a + 1) else ch.s1) ∧
    (ln.format = .pcm8 → t.q = ch.q ∧ t.noise = ch.noise ∧
      t.s0 = (if last then ln.pcm8Sample a else ch.s0) ∧ t.s1 = if last then ln.pcm8Sample (a + 1) else ch.s1) ∧
    (ln.format = .adpcm ∨ ln.format = .adpcmStream → t.noise = ch.noise ∧ t.s0 = r.1 ∧ t.q = r.2 ∧
      t.s1 = if last then (adpcmDecode (ln.adpcmCode (a + 1)) r.1 r.2).1 else ch.s1) ∧
    (ln.format = .noise → t.q = ch.q ∧ t.noise = (if last then noiseNext ch.noise else ch.noise) ∧
      t.s0 = (if last then noiseSample (noiseNext ch.noise) else ch.s0) ∧
      t.s1 = if last then noiseSample (noiseNext (noiseNext ch.noise)) else ch.s1) ∧
    t.frac = ch.frac ∧ t.fegState = ch.fegState ∧ t.lfoCounter = ch.lfoCounter ∧ t.lfoPhase = ch.lfoPhase ∧
    t.alfo = ch.alfo ∧ t.plfo = ch.plfo

/-- When an increment does not disable the channel (LPCTL is 1, or the compare address, CA + 1 rounded down to a multiple of 4 in
the ADPCM stream format, is below LEA): with LPSLNK = 1, state Attack and CA + 1 at or past LSA the envelope state becomes
Decay1; in every other case the envelope state stays. The envelope value is kept.
(R153, R157.) -/
def Obligations.LoopStartLinkOfAnIncrement : Prop :=
  ∀ (ch : Channel) (ln : Lane) (last : Bool),
    let cmp := if ln.format = .adpcmStream then (ch.ca + 1) / 4 * 4 else ch.ca + 1
    let t := ch.streamCross ln last
    (ln.lpctl = true ∨ cmp < ln.lea.toNat) →
    t.aegFp = ch.aegFp ∧
    t.aegState = if ln.lpslnk = true ∧ ch.aegState = .attack ∧ ln.lsa.toNat ≤ ch.ca + 1 then .decay1 else ch.aegState

/-- On the channel being processed, with byte x of wave memory taken at x modulo ARAM_SIZE: the PCM16 and PCM8 rows load samples a
and a + 1 on the last increment and nothing otherwise; the two ADPCM rows commit the code of sample a and, on the last
increment, look ahead at the code of sample a + 1; the noise row advances the generator and loads its samples on the last
increment and nothing otherwise. That a row runs on its own, with a and last from the inputs and on a channel disabled or not,
is the model's choice (notes/assumptions/6.md, 7.md, 9.md, 26.md). It also rests on clauses of R63, R161, R164 that the spec
marks as its own inference.
(R61, R160, R162, R163, R166, notes/assumptions/6.md, notes/assumptions/7.md, notes/assumptions/9.md, notes/assumptions/26.md, 20_memory.md, 41_stream.md.) -/
def Obligations.FormatRowsFetchTheirSamples : Prop :=
  ∀ s : State,
    let c := s.inp.channel
    let ch := s.chan c
    let a := s.inp.addr
    let sa := (s.lane c).sa.toNat
    let byte (x : Nat) : Byte := s.waveByte (x % 0x200000)
    let pcm16 (n : Nat) : Int := (byte (sa + 2 * n + 1) ++ byte (sa + 2 * n)).toInt
    let pcm8 (n : Nat) : Int := 256 * (byte (sa + n)).toInt
    let code (n : Nat) : BitVec 4 := BitVec.ofNat 4 ((byte (sa + n / 2)).toNat / 16 ^ (n % 2))
    let next (x : BitVec 32) : BitVec 32 := BitVec.ofNat 32 (x.toNat * 16807 + 0xBEEF)
    let sample (x : BitVec 32) : Int := (BitVec.ofNat 16 (x.toNat / 65536)).toInt
    exec .fmtPcm16 s = .next (if s.inp.last then s.setChan c { ch with s0 := pcm16 a, s1 := pcm16 (a + 1) } else s) ∧
    exec .fmtPcm8 s = .next (if s.inp.last then s.setChan c { ch with s0 := pcm8 a, s1 := pcm8 (a + 1) } else s) ∧
    (∀ i ∈ [Instr.fmtAdpcm, Instr.fmtAdpcmStream], exec i s = .next (s.setChan c
      (let r := adpcmDecode (code a) ch.s0 ch.q
       if s.inp.last then { ch with s0 := r.1, q := r.2, s1 := (adpcmDecode (code (a + 1)) r.1 r.2).1 }
       else { ch with s0 := r.1, q := r.2 }))) ∧
    exec .fmtNoise s = .next (if s.inp.last then s.setChan c
      { ch with noise := next ch.noise, s0 := sample (next ch.noise), s1 := sample (next (next ch.noise)) } else s)

/-- Interp is the floor of (s0 (1024 - frac) + s1 frac) / 1024, and it lies between the smaller and the larger of s0 and s1.
(R170.) -/
def Obligations.InterpolationStaysBetweenItsSamples : Prop :=
  ∀ ch : Channel,
    ch.interp = (ch.s0 * (1024 - (ch.frac.toNat : Int)) + ch.s1 * (ch.frac.toNat : Int)) / 1024 ∧
    min ch.s0 ch.s1 ≤ ch.interp ∧ ch.interp ≤ max ch.s0 ch.s1

/-- For an enabled channel being processed, in the row's state, with 1023·2^16 the silent end: Attack lowers aeg_fp by its rate and
at V = 0 stops at 0 and goes to Decay1 unless LPSLNK is 1; Decay1 raises it, clamped, and at V at least 32 DL goes to Decay2 (to
Attack with HACK_D1D2 and DL = 0); Decay2 raises it and at V = 1023 stops there and goes to Release; Release raises it and at V
= 1023 stops there and disables the channel. Nothing else changes. That a row runs on its own is the model's choice
(notes/assumptions/6.md, 8.md). It also rests on clauses of R181, R187 that the spec marks as its own inference.
(R186, R188, R189, R190, R192, notes/assumptions/6.md, notes/assumptions/8.md, 42_envelope.md.) -/
def Obligations.EnvelopeRowsStepTheirState : Prop :=
  ∀ s : State,
    let c := s.inp.channel
    let ch := s.chan c
    let ln := s.lane c
    let top := 1023 * 65536
    ch.enabled = true →
    (ch.aegState = .attack → exec .sgcAttack s = .next (s.setChan c
      (if ch.aegFp < ln.attackRate + 65536 then { ch with aegFp := 0, aegState := if ln.lpslnk then .attack else .decay1 }
       else { ch with aegFp := ch.aegFp - ln.attackRate }))) ∧
    (ch.aegState = .decay1 → exec .sgcDecay1 s = .next (s.setChan c
      (let v := min (ch.aegFp + ln.decay1Rate) top
       if ln.dl.toNat * 32 ≤ v / 65536 then
         { ch with aegFp := v, aegState := if s.cfg.hackD1D2 = true ∧ ln.dl.toNat = 0 then .attack else .decay2 }
       else { ch with aegFp := v }))) ∧
    (ch.aegState = .decay2 → exec .sgcDecay2 s = .next (s.setChan c
      (if top ≤ ch.aegFp + ln.decay2Rate then { ch with aegFp := top, aegState := .release }
       else { ch with aegFp := ch.aegFp + ln.decay2Rate }))) ∧
    (ch.aegState = .release → exec .sgcRelease s = .next (s.setChan c
      (if top ≤ ch.aegFp + ln.releaseRate then { ch with aegFp := top, enabled := false }
       else { ch with aegFp := ch.aegFp + ln.releaseRate })))

/-- When the channel being processed is disabled or its envelope is in another state than the row's, the row answers the same state.
This is the model's choice for a row issued on its own (notes/assumptions/8.md). It also rests on clauses of R180 that the spec
marks as its own inference.
(notes/assumptions/8.md, 42_envelope.md.) -/
def Obligations.EnvelopeRowOfAnotherStateDoesNothing : Prop :=
  ∀ s : State, ∀ row ∈ ([(.sgcAttack, .attack), (.sgcDecay1, .decay1), (.sgcDecay2, .decay2), (.sgcRelease, .release)] :
      List (Instr × EgState)),
    ((s.chan s.inp.channel).enabled = false ∨ (s.chan s.inp.channel).aegState ≠ row.2) → exec row.1 s = .next s

/-- EffRate is 2 re + KRS + FNS[9], less 15 when KRS is 15, plus twice the signed octave, clamped to [0, 63]; the four step rates
are the table entries at it. It also rests on clauses of R182 that the spec marks as its own inference.
(R185, 42_envelope.md.) -/
def Obligations.EffectiveRateFormula : Prop :=
  ∀ (ln : Lane) (re : BitVec 5),
    (ln.effRate re : Int) = max 0 (min 63 (2 * (re.toNat : Int) + (if ln.krs.toNat = 15 then 0 else (ln.krs.toNat : Int)) +
      (ln.fns.toNat / 512 : Nat) + 2 * (if ln.oct.toNat < 8 then (ln.oct.toNat : Int) else (ln.oct.toNat : Int) - 16))) ∧
    ln.effRate re < 64 ∧
    ln.attackRate = aegAttSteps.getD (ln.effRate ln.ar) 0 ∧ ln.decay1Rate = aegDsrSteps.getD (ln.effRate ln.d1r) 0 ∧
    ln.decay2Rate = aegDsrSteps.getD (ln.effRate ln.d2r) 0 ∧ ln.releaseRate = aegDsrSteps.getD (ln.effRate ln.rr) 0

/-- For each of the 64 effective rates, both step tables hold round((1024·2^16 - 1) / (44.1 t)) of the duration t in milliseconds,
rounded half up; 0 where the value never moves and 1024·2^16 - 1 where t is 0. It also rests on clauses of R183, R184 that the
spec marks as its own inference.
(42_envelope.md.) -/
def Obligations.StepTablesFollowTheMillisecondTables : Prop :=
  ∀ p ∈ [(arTimes, aegAttSteps), (drTimes, aegDsrSteps)], p.1.length = 64 ∧
    p.2 = p.1.map fun t => match t with
      | none => 0
      | some 0 => 67108863
      | some n => (2 * 67108863 * 1000 + 441 * n) / (2 * (441 * n))

/-- For a channel whose envelope value is within its bound, a step in Attack does not raise aeg_fp, and a step in Decay1, Decay2 or
Release does not lower it; the bound is kept. It also rests on clauses of R180 that the spec marks as its own inference.
(R31, 42_envelope.md.) -/
def Obligations.EnvelopeMovesOneWayInAState : Prop :=
  ∀ (ch : Channel) (ln : Lane), ch.aegFp ≤ 1023 * 65536 →
    (ch.aegState = .attack → (ch.aegStep ln).aegFp ≤ ch.aegFp) ∧
    (ch.aegState ≠ .attack → ch.aegFp ≤ (ch.aegStep ln).aegFp) ∧ (ch.aegStep ln).aegFp ≤ 1023 * 65536

/-- A channel in Release is disabled after n envelope steps, for every n that is at least 1 and for which n times the release rate
covers the distance to 1023·2^16.
(R189.) -/
def Obligations.ReleaseEndsInTime : Prop :=
  ∀ (ch : Channel) (ln : Lane) (n : Nat), ch.aegState = .release → 1 ≤ n → 1023 * 65536 ≤ ch.aegFp + n * ln.releaseRate →
    ((fun x : Channel => x.aegStep ln)^[n] ch).enabled = false

/-- With p the channel's phase and W the row's waveform, a row sets alfo to W(p) shifted right by 8 - ALFOS when the amplitude
output is named and plfo to W(p) shifted right by 8 - PLFOS when the pitch output is. That a row runs on its own, and on a
disabled channel too (whose LFO a TICK leaves frozen, R231), is the model's choice (notes/assumptions/6.md, 7.md, 9.md, 26.md).
It also rests on clauses of R222, R223, R224, R225, R226 that the spec marks as its own inference.
(R227, R228, notes/assumptions/6.md, notes/assumptions/7.md, notes/assumptions/9.md, notes/assumptions/26.md, 43_lfo.md.) -/
def Obligations.WaveformRowsRecomputeTheirOutput : Prop :=
  ∀ s : State,
    let c := s.inp.channel
    let ch := s.chan c
    let p := ch.lfoPhase.toNat
    ∀ row ∈ ([(.lfoSaw, p), (.lfoSquare, if 128 ≤ p then 255 else 0),
        (.lfoTriangle, if 128 ≤ p then 2 * (255 - p) else 2 * p),
        (.lfoNoise, ((p / 8) ^^^ (p * 8) ^^^ (p &&& 0xE3)) % 256)] : List (Instr × Nat)),
      (s.inp.lfoOut = .amplitude → exec row.1 s = .next (s.setChan c
        { ch with alfo := BitVec.ofNat 8 (row.2 / 2 ^ (8 - (s.lane c).alfos.toNat)) })) ∧
      (s.inp.lfoOut = .pitch → exec row.1 s = .next (s.setChan c
        { ch with plfo := BitVec.ofNat 8 (row.2 / 2 ^ (8 - (s.lane c).plfos.toNat)) }))

/-- LFO_START(N) of the 32 codes, as listed. It also rests on clauses of R220 that the spec marks as its own inference.
(43_lfo.md.) -/
def Obligations.LfoStartFormulaAndValues : Prop :=
  (List.range 32).map (fun n => lfoStart (BitVec.ofNat 5 n)) =
    [1020, 892, 764, 636, 508, 444, 380, 316, 252, 220, 188, 156, 124, 108, 92, 76,
     60, 52, 44, 36, 28, 24, 20, 16, 12, 10, 8, 6, 4, 3, 2, 1]

/-- From a counter of n at least 1, fewer than n LFO steps only lower the counter, and the n-th raises the phase by 1 modulo 256,
reloads the counter with LFO_START(LFOF) and recomputes both outputs from the new phase. It also rests on clauses of R220 that
the spec marks as its own inference.
(R221, R227, R228, 43_lfo.md.) -/
def Obligations.LfoPeriodIsItsStartValue : Prop :=
  ∀ (ch : Channel) (ln : Lane), 1 ≤ ch.lfoCounter →
    (∀ k, k < ch.lfoCounter →
      (fun x : Channel => x.lfoStep ln)^[k] ch = { ch with lfoCounter := ch.lfoCounter - k }) ∧
    (fun x : Channel => x.lfoStep ln)^[ch.lfoCounter] ch =
      { ch with lfoPhase := ch.lfoPhase + 1, lfoCounter := lfoStart ln.lfof,
                alfo := lfoWave ln.alfows (ch.lfoPhase + 1) >>> (8 - ln.alfos.toNat),
                plfo := lfoWave ln.plfows (ch.lfoPhase + 1) >>> (8 - ln.plfos.toNat) }

/-- For every size, offset and data: if the access is aligned and mapped, the generic WRITE answers a next state in which each
written byte that the register space holds has the data's byte (with bit 7 cleared in the byte of KYONEX or of LFORE, which
clear themselves), every other register byte is as before, wave memory, configuration, queue, inputs and results are as before,
and a channel's dynamic state changes only for slot 0 (any channel) or slot 7 (its own channel). It also rests on clauses of R66
that the spec marks as its own inference.
(R68, R291, R292, R293, R294, R230, 20_memory.md.) -/
def Obligations.GenericWriteStoresItsBytes : Prop :=
  ∀ (z : Size) (a : Half) (d : Word) (s : State), a.toNat % z.bytes = 0 →
    (a.toNat < 0x2048 ∨ (0x2800 ≤ a.toNat ∧ a.toNat ≤ 0x2803) ∨ (0x280C ≤ a.toNat ∧ a.toNat ≤ 0x2817)) →
    ∃ t, exec (.write z a d) s = .next t ∧
      (∀ o, t.regByte o =
        if a.toNat ≤ o ∧ o < a.toNat + z.bytes ∧ o % 4 < 2 ∧ ¬(0x2810 ≤ o ∧ o ≤ 0x2817) then
          (if o < 0x2000 ∧ (o % 128 = 1 ∨ o % 128 = 29) then dataByte d (o - a.toNat) &&& 0x7F else dataByte d (o - a.toNat))
        else s.regByte o) ∧
      (∀ j : Chan, ¬(a.toNat < 0x2000 ∧ (a.toNat / 4 % 32 = 0 ∨ (a.toNat / 4 % 32 = 7 ∧ j.toNat = a.toNat / 128))) →
        t.chan j = s.chan j) ∧
      t.wave = s.wave ∧ t.cfg = s.cfg ∧ t.bench = s.bench ∧ t.inbox = s.inbox ∧ t.inp = s.inp ∧ t.readData = s.readData ∧
      t.frame = s.frame ∧ t.sink = s.sink

/-- For the rows of slots 0 to 6 and 8 to 17 (slot 0 without KYONEX), the reserved slots, EFSDL/EFPAN, 0x2800 and 0x280C: an aligned
WRITE answers the state with only the register space changed, where each written byte in the slot's lower half is the data's and
every other byte is as before. It also rests on clauses of R66 that the spec marks as its own inference.
(R107, R291, R293, R301, 20_memory.md.) -/
def Obligations.RegisterWriteRowsStore : Prop :=
  ∀ (z : Size) (c : Chan) (k : BitVec 5) (e : BitVec 4) (f : BitVec 1) (b : BitVec 2) (d : Word) (s : State),
    b.toNat % z.bytes = 0 →
    ∀ row ∈ ([(.writeChSlot0 z c b d, 128 * c.toNat + 0 + b.toNat),
      (.writeChSlot1 z c b d, 128 * c.toNat + 4 + b.toNat),
      (.writeChSlot2 z c b d, 128 * c.toNat + 8 + b.toNat),
      (.writeChSlot3 z c b d, 128 * c.toNat + 12 + b.toNat),
      (.writeChSlot4 z c b d, 128 * c.toNat + 16 + b.toNat),
      (.writeChSlot5 z c b d, 128 * c.toNat + 20 + b.toNat),
      (.writeChSlot6 z c b d, 128 * c.toNat + 24 + b.toNat),
      (.writeChSlot8 z c b d, 128 * c.toNat + 32 + b.toNat),
      (.writeChSlot9 z c b d, 128 * c.toNat + 36 + b.toNat),
      (.writeChSlot10 z c b d, 128 * c.toNat + 40 + b.toNat),
      (.writeChSlot11 z c b d, 128 * c.toNat + 44 + b.toNat),
      (.writeChSlot12 z c b d, 128 * c.toNat + 48 + b.toNat),
      (.writeChSlot13 z c b d, 128 * c.toNat + 52 + b.toNat),
      (.writeChSlot14 z c b d, 128 * c.toNat + 56 + b.toNat),
      (.writeChSlot15 z c b d, 128 * c.toNat + 60 + b.toNat),
      (.writeChSlot16 z c b d, 128 * c.toNat + 64 + b.toNat),
      (.writeChSlot17 z c b d, 128 * c.toNat + 68 + b.toNat),
      (.writeChReserved18 z c k b d, 128 * c.toNat + 4 * k.toNat + b.toNat),
      (.writeChReserved20 z c k b d, 128 * c.toNat + 4 * k.toNat + b.toNat),
      (.writeChReserved24 z c k b d, 128 * c.toNat + 4 * k.toNat + b.toNat),
      (.writeEfsDsp z e b d, 0x2000 + 4 * e.toNat + b.toNat),
      (.writeEfsCd z f b d, 0x2040 + 4 * f.toNat + b.toNat),
      (.writeMvol z b d, 0x2800 + b.toNat),
      (.writeMslc z b d, 0x280C + b.toNat)] : List (Instr × Nat)),
      row.1.WellFormed →
      ∃ m : Memory, exec row.1 s = .next { s with regs := m } ∧
        ∀ o, m.read o = if row.2 ≤ o ∧ o < row.2 + z.bytes ∧ o % 4 < 2 then dataByte d (o - row.2) else s.regByte o

/-- Every aligned WRITE at 0x2810 to 0x2817 answers the same state: nothing is stored, no flag is cleared, nothing else changes.
(R304.) -/
def Obligations.StatusWritesAreIgnored : Prop :=
  ∀ (z : Size) (b : BitVec 2) (d : Word) (s : State), b.toNat % z.bytes = 0 →
    exec (.writeStatus z b d) s = .next s ∧ exec (.writeCa z b d) s = .next s

/-- Every aligned, mapped WRITE at byte 2 or 3 of a slot answers the same state. It also rests on clauses of R66 that the spec marks
as its own inference.
(R291, 20_memory.md.) -/
def Obligations.UpperHalfWritesStoreNothing : Prop :=
  ∀ (z : Size) (a : Half) (d : Word) (s : State), a.toNat % z.bytes = 0 → 2 ≤ a.toNat % 4 →
    (a.toNat < 0x2048 ∨ (0x2800 ≤ a.toNat ∧ a.toNat ≤ 0x2803) ∨ (0x280C ≤ a.toNat ∧ a.toNat ≤ 0x2817)) →
    exec (.write z a d) s = .next s

/-- Kind code 11 and size code 11 words decode to the rows that refuse with bad_op; a 2-byte access at an odd offset or a 4-byte
access at an offset not a multiple of 4 is refused as misaligned; an aligned access outside 0..0x2047, 0x2800..0x2803,
0x280C..0x280F, 0x2810..0x2813, 0x2814..0x2817 is refused as unmapped; every other READ and WRITE answers a next state.
(R302.) -/
def Obligations.RefusedOperations : Prop :=
  (∀ zc a d : Nat, zc < 4 → a < 0x10000 → d < 2 ^ 32 →
    decodeHostOp (3 * 2 ^ 50 + zc * 2 ^ 48 + a * 2 ^ 32 + d) = .reservedOp ∧
    decodeHostOp (1 * 2 ^ 50 + 3 * 2 ^ 48 + a * 2 ^ 32 + d) = .readBadsize ∧
    decodeHostOp (2 * 2 ^ 50 + 3 * 2 ^ 48 + a * 2 ^ 32 + d) = .writeBadsize) ∧
  (∀ s : State, exec .reservedOp s = .refused .badOp ∧ exec .readBadsize s = .refused .badOp ∧
    exec .writeBadsize s = .refused .badOp) ∧
  (∀ (z : Size) (a : Half) (d : Word) (s : State),
    let bad := (z = .b2 ∧ a.toNat % 2 = 1) ∨ (z = .b4 ∧ a.toNat % 4 ≠ 0)
    let inMap := a.toNat < 0x2048 ∨ (0x2800 ≤ a.toNat ∧ a.toNat ≤ 0x2803) ∨ (0x280C ≤ a.toNat ∧ a.toNat ≤ 0x280F) ∨
      (0x2810 ≤ a.toNat ∧ a.toNat ≤ 0x2813) ∨ (0x2814 ≤ a.toNat ∧ a.toNat ≤ 0x2817)
    (bad → exec (.read z a) s = .refused .misaligned ∧ exec (.write z a d) s = .refused .misaligned) ∧
    (¬bad → ¬inMap → exec (.read z a) s = .refused .unmapped ∧ exec (.write z a d) s = .refused .unmapped) ∧
    (¬bad → inMap → (∃ t, exec (.read z a) s = .next t) ∧ ∃ t, exec (.write z a d) s = .next t))

/-- For each of the three KYONEX rows, with m the register space after the written bytes are stored: the next state's channel j is
key-on of the old one when KYONB of j in m is 1 and key-off of it when it is 0, for all 64 channels; the register space is m
with KYONEX of the written channel cleared; nothing else changes. It also rests on clauses of R365 that the spec marks as its
own inference.
(R291, R292, R294, 70_reset_and_hazards.md.) -/
def Obligations.KyonexKeysEveryChannel : Prop :=
  ∀ (c : Chan) (d : Word) (s : State),
    ∀ row ∈ ([(.writeKyonexW8 c d, 1, 1), (.writeKyonexW16 c d, 0, 2), (.writeKyonexW32 c d, 0, 4)] : List (Instr × Nat × Nat)),
      row.1.WellFormed →
      ∃ (m m' : Memory) (t : State), exec row.1 s = .next t ∧
        (∀ o, m.read o = if 128 * c.toNat + row.2.1 ≤ o ∧ o < 128 * c.toNat + row.2.1 + row.2.2 ∧ o % 4 < 2 then
          dataByte d (o - (128 * c.toNat + row.2.1)) else s.regByte o) ∧
        (∀ o, m'.read o = if o = 128 * c.toNat + 1 then m.read o &&& 0x7F else m.read o) ∧
        t = { s with regs := m', chans := t.chans } ∧
        ∀ j : Chan, t.chan j =
          if (m.read (128 * j.toNat + 1)).getLsbD 6 then (s.chan j).keyOn { cfg := s.cfg, regs := m, wave := s.wave, c := j }
          else (s.chan j).keyOff

/-- Key-on of a channel not in Release changes nothing. From Release: enabled, Attack, aeg_fp = 0x3FF·2^16, filter state Attack, CA
= 0, frac = 0, looped = 0, LFO state kept; then the initial fetch: PCM samples 0 and 1 with q = 0x7F, or code 0 committed from
(0, 0x7F) and code 1 looked ahead, or the next noise; the noise state is kept in the other formats.
(R165, R191, R295.) -/
def Obligations.KeyOnRestartsAReleasedChannel : Prop :=
  ∀ (ch : Channel) (ln : Lane),
    (ch.aegState ≠ .release → ch.keyOn ln = ch) ∧
    (ch.aegState = .release →
      let base : Channel := { ch with
        enabled := true, aegState := .attack, aegFp := 0x3FF * 65536, fegState := .attack,
        ca := 0, frac := 0, looped := false, q := 0x7F, s0 := 0 }
      (ln.format = .pcm16 → ch.keyOn ln = { base with s0 := ln.pcm16Sample 0, s1 := ln.pcm16Sample 1 }) ∧
      (ln.format = .pcm8 → ch.keyOn ln = { base with s0 := ln.pcm8Sample 0, s1 := ln.pcm8Sample 1 }) ∧
      (ln.format = .adpcm ∨ ln.format = .adpcmStream →
        let r := adpcmDecode (ln.adpcmCode 0) 0 0x7F
        ch.keyOn ln = { base with s0 := r.1, q := r.2, s1 := (adpcmDecode (ln.adpcmCode 1) r.1 r.2).1 }) ∧
      (ln.format = .noise → ch.keyOn ln = { base with
        noise := noiseNext ch.noise, s0 := noiseSample (noiseNext ch.noise),
        s1 := noiseSample (noiseNext (noiseNext ch.noise)) }))

/-- Key-off sets the envelope and filter states of a channel not in Release to Release and changes nothing else; it leaves a channel
in Release unchanged.
(R296.) -/
def Obligations.KeyOffReleasesAPlayingChannel : Prop :=
  ∀ ch : Channel,
    (ch.aegState ≠ .release → ch.keyOff = { ch with aegState := .release, fegState := .release }) ∧
    (ch.aegState = .release → ch.keyOff = ch)

/-- An aligned WRITE row of slot 7 that does not set LFORE: at bytes 2 and 3 it answers the same state; otherwise, with m the
register space after the bytes are stored, the channel's counter is LFO_START of the new LFOF (kept when LFO_WRITE_RELOADS is
false), both outputs are recomputed from the new fields at the phase held, the register space is m, and nothing else changes.
(R229, R291, R293.) -/
def Obligations.LfoRegisterWriteRecomputes : Prop :=
  ∀ (z : Size) (c : Chan) (b : BitVec 2) (d : Word) (s : State), b.toNat % z.bytes = 0 →
    (Instr.writeChSlot7 z c b d).WellFormed →
    (2 ≤ b.toNat → exec (.writeChSlot7 z c b d) s = .next s) ∧
    (b.toNat < 2 → ∃ m : Memory,
      let ln : Lane := { cfg := s.cfg, regs := m, wave := s.wave, c := c }
      let p := (s.chan c).lfoPhase
      (∀ o, m.read o = if 128 * c.toNat + 28 + b.toNat ≤ o ∧ o < 128 * c.toNat + 28 + b.toNat + z.bytes ∧ o % 4 < 2 then
        dataByte d (o - (128 * c.toNat + 28 + b.toNat)) else s.regByte o) ∧
      exec (.writeChSlot7 z c b d) s = .next { s.setChan c { s.chan c with
        lfoCounter := if s.cfg.lfoWriteReloads then lfoStart ln.lfof else (s.chan c).lfoCounter
        alfo := lfoWave ln.alfows p >>> (8 - ln.alfos.toNat)
        plfo := lfoWave ln.plfows p >>> (8 - ln.plfos.toNat) } with regs := m })

/-- For each of the three LFORE rows, with m the register space after the bytes are stored: phase 0, counter LFO_START of the new
LFOF, both outputs recomputed at phase 0, the register space is m with LFORE cleared, and nothing else changes.
(R229, R230, R292.) -/
def Obligations.LforeWriteResetsThePhase : Prop :=
  ∀ (c : Chan) (d : Word) (s : State),
    ∀ row ∈ ([(.writeLforeW8 c d, 29, 1), (.writeLforeW16 c d, 28, 2), (.writeLforeW32 c d, 28, 4)] : List (Instr × Nat × Nat)),
      row.1.WellFormed →
      ∃ m m' : Memory,
        let ln : Lane := { cfg := s.cfg, regs := m, wave := s.wave, c := c }
        (∀ o, m.read o = if 128 * c.toNat + row.2.1 ≤ o ∧ o < 128 * c.toNat + row.2.1 + row.2.2 ∧ o % 4 < 2 then
          dataByte d (o - (128 * c.toNat + row.2.1)) else s.regByte o) ∧
        (∀ o, m'.read o = if o = 128 * c.toNat + 29 then m.read o &&& 0x7F else m.read o) ∧
        exec row.1 s = .next { s.setChan c { s.chan c with
          lfoPhase := 0
          lfoCounter := lfoStart ln.lfof
          alfo := lfoWave ln.alfows 0 >>> (8 - ln.alfos.toNat)
          plfo := lfoWave ln.plfows 0 >>> (8 - ln.plfos.toNat) } with regs := m' }

/-- For every size and offset: if the access is aligned and mapped, the generic READ answers the state with only the returned value
changed, except that a 2- or 4-byte READ at 0x2810 and a 1-byte READ at 0x2811 also clear the looped flag of channel MSLC; each
returned byte is the stored byte in a slot's lower half, 0 in its upper half and past the size (the status and play-address
bytes are other statements').
(R67, R297, R299.) -/
def Obligations.GenericReadReturnsAndClears : Prop :=
  ∀ (z : Size) (a : Half) (s : State), a.toNat % z.bytes = 0 →
    (a.toNat < 0x2048 ∨ (0x2800 ≤ a.toNat ∧ a.toNat ≤ 0x2803) ∨ (0x280C ≤ a.toNat ∧ a.toNat ≤ 0x2817)) →
    ∃ v : Word,
      exec (.read z a) s = .next
        { (if (a.toNat = 0x2810 ∧ z ≠ .b1) ∨ (a.toNat = 0x2811 ∧ z = .b1) then
            s.setChan s.regs.mslc { s.chan s.regs.mslc with looped := false } else s) with readData := v } ∧
      ∀ i, i < 4 → ¬(0x2810 ≤ a.toNat ∧ a.toNat ≤ 0x2817 ∧ (a.toNat + i) % 4 < 2) →
        dataByte v i = if i < z.bytes ∧ (a.toNat + i) % 4 < 2 then s.regByte (a.toNat + i) else 0

/-- For the rows of slots 0 to 17, the reserved slots, EFSDL/EFPAN, 0x2800 and 0x280C: an aligned READ answers the state with only
the returned value changed, whose byte i is the stored byte at that offset in a slot's lower half and 0 elsewhere. It also rests
on clauses of R66 that the spec marks as its own inference.
(R107, R297, 20_memory.md.) -/
def Obligations.RegisterReadRowsReturnTheStoredBytes : Prop :=
  ∀ (z : Size) (c : Chan) (k : BitVec 5) (e : BitVec 4) (f : BitVec 1) (b : BitVec 2) (s : State),
    b.toNat % z.bytes = 0 →
    ∀ row ∈ ([(.readChSlot0 z c b, 128 * c.toNat + 0 + b.toNat),
      (.readChSlot1 z c b, 128 * c.toNat + 4 + b.toNat),
      (.readChSlot2 z c b, 128 * c.toNat + 8 + b.toNat),
      (.readChSlot3 z c b, 128 * c.toNat + 12 + b.toNat),
      (.readChSlot4 z c b, 128 * c.toNat + 16 + b.toNat),
      (.readChSlot5 z c b, 128 * c.toNat + 20 + b.toNat),
      (.readChSlot6 z c b, 128 * c.toNat + 24 + b.toNat),
      (.readChSlot7 z c b, 128 * c.toNat + 28 + b.toNat),
      (.readChSlot8 z c b, 128 * c.toNat + 32 + b.toNat),
      (.readChSlot9 z c b, 128 * c.toNat + 36 + b.toNat),
      (.readChSlot10 z c b, 128 * c.toNat + 40 + b.toNat),
      (.readChSlot11 z c b, 128 * c.toNat + 44 + b.toNat),
      (.readChSlot12 z c b, 128 * c.toNat + 48 + b.toNat),
      (.readChSlot13 z c b, 128 * c.toNat + 52 + b.toNat),
      (.readChSlot14 z c b, 128 * c.toNat + 56 + b.toNat),
      (.readChSlot15 z c b, 128 * c.toNat + 60 + b.toNat),
      (.readChSlot16 z c b, 128 * c.toNat + 64 + b.toNat),
      (.readChSlot17 z c b, 128 * c.toNat + 68 + b.toNat),
      (.readChReserved18 z c k b, 128 * c.toNat + 4 * k.toNat + b.toNat),
      (.readChReserved20 z c k b, 128 * c.toNat + 4 * k.toNat + b.toNat),
      (.readChReserved24 z c k b, 128 * c.toNat + 4 * k.toNat + b.toNat),
      (.readEfsDsp z e b, 0x2000 + 4 * e.toNat + b.toNat),
      (.readEfsCd z f b, 0x2040 + 4 * f.toNat + b.toNat),
      (.readMvol z b, 0x2800 + b.toNat),
      (.readMslc z b, 0x280C + b.toNat)] : List (Instr × Nat)),
      ∃ v : Word, exec row.1 s = .next { s with readData := v } ∧
        ∀ i, i < 4 → dataByte v i = if i < z.bytes ∧ (row.2 + i) % 4 < 2 then s.regByte (row.2 + i) else 0

/-- With c the channel MSLC selects and its status value LP·2^15 + SGC·2^13 + V: the 2- and 4-byte READs at 0x2810 return it and
clear the flag; the 1-byte READ at 0x2810 returns its low byte and clears nothing; the 1-byte READ at 0x2811 returns its high
byte and clears the flag; the READs at bytes 2 and 3 return 0 and clear nothing. It also rests on clauses of R298 that the spec
marks as its own inference.
(R105, R299, R301, 45_register_interface.md.) -/
def Obligations.StatusReadsReportAndClear : Prop :=
  ∀ (s : State) (c : Chan), c.toNat = (s.regByte 0x280D).toNat % 64 → (s.chan c).aegFp < 8192 * 65536 →
    let ch := s.chan c
    let code := match ch.aegState with
      | .attack => 0
      | .decay1 => 1
      | .decay2 => 2
      | .release => 3
    let v := (if ch.looped then 32768 else 0) + 8192 * code + ch.aegFp / 65536
    let cleared := s.setChan c { ch with looped := false }
    exec (.readStatusClearing .b2) s = .next { cleared with readData := BitVec.ofNat 32 v } ∧
    exec (.readStatusClearing .b4) s = .next { cleared with readData := BitVec.ofNat 32 v } ∧
    exec (.readStatus .b1 0) s = .next { s with readData := BitVec.ofNat 32 (v % 256) } ∧
    exec (.readStatus .b1 1) s = .next { cleared with readData := BitVec.ofNat 32 (v / 256) } ∧
    exec (.readStatus .b1 2) s = .next { s with readData := 0 } ∧
    exec (.readStatus .b1 3) s = .next { s with readData := 0 } ∧
    exec (.readStatus .b2 2) s = .next { s with readData := 0 }

/-- With c the channel MSLC selects: the 2- and 4-byte READs at 0x2814 return CA[15:0], the 1-byte READs its two bytes, the READs at
bytes 2 and 3 return 0; only the returned value changes. It also rests on clauses of R300 that the spec marks as its own
inference.
(R301, 45_register_interface.md.) -/
def Obligations.PlayAddressReadsHaveNoSideEffect : Prop :=
  ∀ (s : State) (c : Chan), c.toNat = (s.regByte 0x280D).toNat % 64 →
    let ca := (s.chan c).ca % 65536
    exec (.readCa .b2 0) s = .next { s with readData := BitVec.ofNat 32 ca } ∧
    exec (.readCa .b4 0) s = .next { s with readData := BitVec.ofNat 32 ca } ∧
    exec (.readCa .b1 0) s = .next { s with readData := BitVec.ofNat 32 (ca % 256) } ∧
    exec (.readCa .b1 1) s = .next { s with readData := BitVec.ofNat 32 (ca / 256) } ∧
    exec (.readCa .b1 2) s = .next { s with readData := 0 } ∧
    exec (.readCa .b1 3) s = .next { s with readData := 0 } ∧
    exec (.readCa .b2 2) s = .next { s with readData := 0 }

/-- After a WRITE outside the status registers has answered a next state, the READ of the same size and offset completes there and
returns the data's bytes in the slot's lower half, with KYONEX and LFORE as 0, and 0 in the upper half.
(R297, R107.) -/
def Obligations.WriteThenReadBack : Prop :=
  ∀ (z : Size) (a : Half) (d : Word) (s t : State), exec (.write z a d) s = .next t →
    ¬(0x2810 ≤ a.toNat ∧ a.toNat ≤ 0x2817) →
    ∃ v : Word, exec (.read z a) t = .next { t with readData := v } ∧
      ∀ i, i < z.bytes → dataByte v i =
        if (a.toNat + i) % 4 < 2 then
          (if a.toNat + i < 0x2000 ∧ ((a.toNat + i) % 128 = 1 ∨ (a.toNat + i) % 128 = 29) then dataByte d i &&& 0x7F
           else dataByte d i)
        else 0

/-- For every state a TICK answers a next state in which each enabled channel has had its envelope step, then its stream step, then
its LFO step, and each disabled channel is unchanged; registers, wave memory, configuration, queue, inputs and the last READ's
value are unchanged; the frame is delivered to the sink unless AUDIO_OUT_OFF is true. That the frame and the frames delivered
are held as fields, and the latter newest first, is the model's choice (notes/assumptions/14.md, 15.md); R269 has the sink
accept frames in order.
(R250, R260, R261, R269, R270, R303, notes/assumptions/14.md, notes/assumptions/15.md.) -/
def Obligations.TickStepsEveryEnabledChannel : Prop :=
  ∀ s : State, ∃ t, exec .tick s = .next t ∧
    (∀ c, t.chan c = if (s.chan c).enabled then (((s.chan c).aegStep (s.lane c)).streamStep (s.lane c)).lfoStep (s.lane c)
      else s.chan c) ∧
    t.regs = s.regs ∧ t.wave = s.wave ∧ t.cfg = s.cfg ∧ t.bench = s.bench ∧ t.inbox = s.inbox ∧ t.inp = s.inp ∧
    t.readData = s.readData ∧
    t.sink = if s.cfg.audioOutOff then s.sink else t.frame :: s.sink

/-- With each enabled channel contributing floor(x ATT_LUT[min(ofs + att, 1023)] / 2^15) to left, right and its auxiliary bus, x its
interpolated sample and ofs = alfo + (V >> 2), all from the state before the TICK: the sums plus the CD pair (unless CD_MUTE)
through the mono fold, the master volume, the output shift and the 16-bit clip are the frame; the auxiliary sums are the
unclipped sums of the channels routed to each bus. It also rests on clauses of R259, R262, R267 that the spec marks as its own
inference.
(R250, R261, R263, R264, R265, R266, R268, R269, 44_channel_mix.md.) -/
def Obligations.TickFrameIsTheMix : Prop :=
  ∀ s : State,
    let x (c : Chan) : Int := (s.chan c).interp
    let ofs (c : Chan) : Nat := (s.chan c).alfo.toNat + (s.chan c).aegFp / 65536 / 4
    let gain (c : Chan) (att : Nat) : Int :=
      if (s.chan c).enabled then x c * (attLut (min (ofs c + att) 1023) : Int) / 32768 else 0
    let sumL : Int := ∑ n ∈ Finset.range 64, gain (BitVec.ofNat 6 n) (s.lane (BitVec.ofNat 6 n)).busAtt.1
    let sumR : Int := ∑ n ∈ Finset.range 64, gain (BitVec.ofNat 6 n) (s.lane (BitVec.ofNat 6 n)).busAtt.2
    let cd (v : Int) (att : Nat) : Int := if s.cfg.cdMute then 0 else v * (attLut att : Int) / 32768
    let p16 := panHelper (sendAtt (s.regs.efsdl 16)) (s.regs.efpan 16)
    let p17 := panHelper (sendAtt (s.regs.efsdl 17)) (s.regs.efpan 17)
    let l := sumL + cd s.inp.cdL.toInt p16.1 + cd s.inp.cdR.toInt p17.1
    let r := sumR + cd s.inp.cdL.toInt p16.2 + cd s.inp.cdR.toInt p17.2
    let out (v : Int) : Int :=
      let y := v * (mvolLut s.regs.mvol : Int) / 32768
      let w := if s.regs.dac18b then y / 4 else y
      max (-32768) (min 32767 w)
    ∃ t, exec .tick s = .next t ∧
      t.frame.l = out (if s.regs.mono then l + r else l) ∧
      t.frame.r = out (if s.regs.mono then l + r else r) ∧
      ∀ k : BitVec 4, t.frame.aux[k.toNat]'k.isLt = ∑ n ∈ Finset.range 64,
        if (s.lane (BitVec.ofNat 6 n)).isel = k then gain (BitVec.ofNat 6 n) (s.lane (BitVec.ofNat 6 n)).auxAtt else 0

/-- When MVOL (the low four bits of byte 0x2800) is 0, a TICK answers a next state whose frame is (0, 0). It also rests on clauses
of R253, R267 that the spec marks as its own inference.
(44_channel_mix.md.) -/
def Obligations.MuteCodeSilencesTheOutput : Prop :=
  ∀ s : State, (s.regByte 0x2800).toNat % 16 = 0 → ∃ t, exec .tick s = .next t ∧ t.frame.l = 0 ∧ t.frame.r = 0

/-- An attenuation of 255 or more is silent: if each enabled channel has V at least 1020, and CD_MUTE is true or both CD send levels
are 0, a TICK answers the frame (0, 0) with zero auxiliary sums. It also rests on clauses of R254 that the spec marks as its own
inference.
(R251, R260, R265, 44_channel_mix.md.) -/
def Obligations.SilentEnvelopesGiveSilence : Prop :=
  ∀ s : State, (∀ c, (s.chan c).enabled = true → 1020 * 65536 ≤ (s.chan c).aegFp) →
    (s.cfg.cdMute = true ∨ (s.regs.efsdl 16 = 0 ∧ s.regs.efsdl 17 = 0)) →
    ∃ t, exec .tick s = .next t ∧ t.frame = Frame.zero

/-- When MONO (bit 7 of byte 0x2801) is 1, a TICK answers a frame whose left and right are equal, and each is a 16-bit sample.
(R266, R269.) -/
def Obligations.MonoMakesBothSidesEqual : Prop :=
  ∀ s : State, (s.regByte 0x2801).getLsbD 7 = true →
    ∃ t, exec .tick s = .next t ∧ t.frame.l = t.frame.r ∧ -32768 ≤ t.frame.l ∧ t.frame.l ≤ 32767

/-- For i at most 254 the entry is the largest v with v^16 2^i at most 2^240; from 255 on it is 0. It also rests on clauses of R252
that the spec marks as its own inference.
(44_channel_mix.md.) -/
def Obligations.AttenuationTableIsTheFlooredPower : Prop :=
  (∀ i < 255, attLut i ^ 16 * 2 ^ i ≤ 2 ^ 240 ∧ 2 ^ 240 < (attLut i + 1) ^ 16 * 2 ^ i) ∧ ∀ i, 255 ≤ i → attLut i = 0

/-- With the direct send's base TL + SEND_ATT(DISDL) clamped at 511 and the far side further attenuated by the pan magnitude:
direction bit 1 attenuates the right side, 0 the left; the auxiliary attenuation is TL + SEND_ATT(IMXL) clamped at 511. It also
rests on clauses of R254, R255 that the spec marks as its own inference.
(R256, R257, 44_channel_mix.md.) -/
def Obligations.BusAttenuationsOfAChannel : Prop :=
  ∀ ln : Lane,
    let send (n : BitVec 4) : Nat := if n.toNat = 0 then 511 else (15 - n.toNat) * 8
    let pan : Nat := if ln.dipan.toNat % 16 = 15 then 511 else ln.dipan.toNat % 16 * 8
    let b := min (ln.tl.toNat + send ln.disdl) 511
    let x := min (b + pan) 511
    ln.busAtt = (if 16 ≤ ln.dipan.toNat then (b, x) else (x, b)) ∧ ln.auxAtt = min (ln.tl.toNat + send ln.imxl) 511

/-- Two states that agree on the configuration, on wave memory, on channel c's dynamic state and on the 128 register bytes of
channel c agree on channel c after a TICK, whatever the other channels hold.
(R250, R341.) -/
def Obligations.ChannelsDoNotInfluenceEachOther : Prop :=
  ∀ (s s' : State) (c : Chan), s'.cfg = s.cfg → s'.wave = s.wave → s'.chan c = s.chan c →
    (∀ o, 128 * c.toNat ≤ o → o < 128 * c.toNat + 128 → s'.regByte o = s.regByte o) →
    ∃ t t', exec .tick s = .next t ∧ exec .tick s' = .next t' ∧ t'.chan c = t.chan c

/-- For every state and channel, with a register the 16 bits of the two bytes at its offset, low byte first: every field of slots 0
to 17, of the send slots 0 to 17, of 0x2800 and of 0x280C is the bits the layout gives it; SA is slot 0 bits 6:0 above slot 1;
OCT read signed is its code less 16 from 8 on; the format is noise when SSCTL is 1 and otherwise PCM16, PCM8, ADPCM, ADPCM
stream for PCMS 0, 1, 2, 3. It also rests on clauses of R81, R82, R83, R84, R85, R86, R87, R88, R89, R90, R91, R92, R93, R94,
R95, R96, R97, R98, R99, R103 that the spec marks as its own inference.
(R80, R100, R158, 30_encoding.md.) -/
def Obligations.RegisterFieldsAreTheirBits : Prop :=
  ∀ (s : State) (c : Chan),
    let ln := s.lane c
    let half (o : Nat) : Nat := (s.regByte (o + 1)).toNat * 256 + (s.regByte o).toNat
    let slot (k : Nat) : Nat := half (128 * c.toNat + 4 * k)
    let bits (r lo n : Nat) : Nat := r / 2 ^ lo % 2 ^ n
    ln.kyonex = decide (bits (slot 0) 15 1 = 1) ∧ ln.kyonb = decide (bits (slot 0) 14 1 = 1) ∧
    ln.ssctl = decide (bits (slot 0) 10 1 = 1) ∧ ln.lpctl = decide (bits (slot 0) 9 1 = 1) ∧
    ln.pcms.toNat = bits (slot 0) 7 2 ∧ ln.sa.toNat = bits (slot 0) 0 7 * 65536 + slot 1 ∧ ln.lsa.toNat = slot 2 ∧
    ln.lea.toNat = slot 3 ∧ ln.d2r.toNat = bits (slot 4) 11 5 ∧ ln.d1r.toNat = bits (slot 4) 6 5 ∧
    ln.ar.toNat = bits (slot 4) 0 5 ∧ ln.lpslnk = decide (bits (slot 5) 14 1 = 1) ∧ ln.krs.toNat = bits (slot 5) 10 4 ∧
    ln.dl.toNat = bits (slot 5) 5 5 ∧ ln.rr.toNat = bits (slot 5) 0 5 ∧ ln.oct.toNat = bits (slot 6) 11 4 ∧
    ln.fns.toNat = bits (slot 6) 0 10 ∧ ln.lfore = decide (bits (slot 7) 15 1 = 1) ∧ ln.lfof.toNat = bits (slot 7) 10 5 ∧
    ln.plfows.toNat = bits (slot 7) 8 2 ∧ ln.plfos.toNat = bits (slot 7) 5 3 ∧ ln.alfows.toNat = bits (slot 7) 3 2 ∧
    ln.alfos.toNat = bits (slot 7) 0 3 ∧ ln.imxl.toNat = bits (slot 8) 4 4 ∧ ln.isel.toNat = bits (slot 8) 0 4 ∧
    ln.disdl.toNat = bits (slot 9) 8 4 ∧ ln.dipan.toNat = bits (slot 9) 0 5 ∧ ln.tl.toNat = bits (slot 10) 8 8 ∧
    ln.voff = decide (bits (slot 10) 6 1 = 1) ∧ ln.lpoff = decide (bits (slot 10) 5 1 = 1) ∧
    ln.filterQ.toNat = bits (slot 10) 0 5 ∧ (∀ n, n < 5 → (ln.flv n).toNat = bits (slot (11 + n)) 0 13) ∧
    ln.far.toNat = bits (slot 16) 8 5 ∧ ln.fd1r.toNat = bits (slot 16) 0 5 ∧ ln.fd2r.toNat = bits (slot 17) 8 5 ∧
    ln.frr.toNat = bits (slot 17) 0 5 ∧
    (ln.oct.toInt = if bits (slot 6) 11 4 < 8 then (bits (slot 6) 11 4 : Int) else (bits (slot 6) 11 4 : Int) - 16) ∧
    (∀ k, k < 18 → (s.regs.efsdl k).toNat = bits (half (0x2000 + 4 * k)) 8 4 ∧
      (s.regs.efpan k).toNat = bits (half (0x2000 + 4 * k)) 0 5) ∧
    s.regs.mono = decide (bits (half 0x2800) 15 1 = 1) ∧ s.regs.mem8mb = decide (bits (half 0x2800) 9 1 = 1) ∧
    s.regs.dac18b = decide (bits (half 0x2800) 8 1 = 1) ∧ s.regs.ver.toNat = bits (half 0x2800) 4 4 ∧
    s.regs.mvol.toNat = bits (half 0x2800) 0 4 ∧ s.regs.afset = decide (bits (half 0x280C) 14 1 = 1) ∧
    s.regs.mslc.toNat = bits (half 0x280C) 8 6 ∧
    (ln.format = if bits (slot 0) 10 1 = 1 then .noise else
      [SampleFormat.pcm16, .pcm8, .adpcm, .adpcmStream].getD (bits (slot 0) 7 2) .noise)

/-- Where bench is false, as it is at reset: a next state is the same state with nothing queued, that of a queued write of a wave-
memory byte, or exec, at the state with the request gone and its inputs standing, of an instruction decoded from a host
operation's word that does there exactly what TICK, the generic READ or the generic WRITE of some size, offset and data does;
bench stays false; and a queued channel's row is refused. The queue, the wave write as a request and bench are the model's
choice (notes/assumptions/1.md, 6.md, 11.md).
(R290, R305, notes/assumptions/1.md, notes/assumptions/6.md, notes/assumptions/11.md.) -/
def Obligations.StepsAreTheThreeOperations : Prop :=
  State.reset.bench = false ∧
  (∀ s t : State, s.bench = false → step s = .next t → t.bench = false ∧
    ((s.inbox = [] ∧ t = s) ∨
     (∃ (a : Nat) (v : Byte) (rest : List Request), s.inbox = .poke a v :: rest ∧
       t = { s with inbox := rest, wave := s.wave.write a v }) ∨
     ∃ (bs : List Byte) (inp : Inputs) (rest : List Request) (i : Instr),
       s.inbox = .op .hostop52 bs inp :: rest ∧ decode .hostop52 bs = .ok i ∧
       let s' : State := { s with inbox := rest, inp := inp }
       exec i s' = .next t ∧
       (i = .tick ∨ (∃ z a, exec i s' = exec (.read z a) s') ∨ ∃ z a d, exec i s' = exec (.write z a d) s'))) ∧
  (∀ (s : State) (f : WordFormat) (bs : List Byte) (inp : Inputs) (rest : List Request), s.bench = false →
    s.cfg.hackMix = false → f ≠ .hostop52 → s.inbox = .op f bs inp :: rest → step s = .refused .notHostOperation)
end

