-- ==== Sys2Proof/Laws/State.lean ====
section
/-! SUPPORT. The small lemmas of the state: one per field per update, and the channel and lane accessors after each. -/

namespace Sys2Proof.Machine

@[simp] theorem State.setChan_regs (s : State) (c : Chan) (ch : Channel) : (s.setChan c ch).regs = s.regs := rfl
@[simp] theorem State.setChan_wave (s : State) (c : Chan) (ch : Channel) : (s.setChan c ch).wave = s.wave := rfl
@[simp] theorem State.setChan_chans (s : State) (c : Chan) (ch : Channel) : (s.setChan c ch).chans = s.chans.set c.toNat ch c.isLt := rfl
@[simp] theorem State.setChan_cfg (s : State) (c : Chan) (ch : Channel) : (s.setChan c ch).cfg = s.cfg := rfl
@[simp] theorem State.setChan_bench (s : State) (c : Chan) (ch : Channel) : (s.setChan c ch).bench = s.bench := rfl
@[simp] theorem State.setChan_inbox (s : State) (c : Chan) (ch : Channel) : (s.setChan c ch).inbox = s.inbox := rfl
@[simp] theorem State.setChan_inp (s : State) (c : Chan) (ch : Channel) : (s.setChan c ch).inp = s.inp := rfl
@[simp] theorem State.setChan_readData (s : State) (c : Chan) (ch : Channel) : (s.setChan c ch).readData = s.readData := rfl
@[simp] theorem State.setChan_frame (s : State) (c : Chan) (ch : Channel) : (s.setChan c ch).frame = s.frame := rfl
@[simp] theorem State.setChan_sink (s : State) (c : Chan) (ch : Channel) : (s.setChan c ch).sink = s.sink := rfl

@[simp] theorem State.latch_regs (s : State) (inp : Inputs) (rest : List Request) : (s.latch inp rest).regs = s.regs := rfl
@[simp] theorem State.latch_wave (s : State) (inp : Inputs) (rest : List Request) : (s.latch inp rest).wave = s.wave := rfl
@[simp] theorem State.latch_chans (s : State) (inp : Inputs) (rest : List Request) : (s.latch inp rest).chans = s.chans := rfl
@[simp] theorem State.latch_cfg (s : State) (inp : Inputs) (rest : List Request) : (s.latch inp rest).cfg = s.cfg := rfl
@[simp] theorem State.latch_bench (s : State) (inp : Inputs) (rest : List Request) : (s.latch inp rest).bench = s.bench := rfl
@[simp] theorem State.latch_inbox (s : State) (inp : Inputs) (rest : List Request) : (s.latch inp rest).inbox = rest := rfl
@[simp] theorem State.latch_inp (s : State) (inp : Inputs) (rest : List Request) : (s.latch inp rest).inp = inp := rfl
@[simp] theorem State.latch_readData (s : State) (inp : Inputs) (rest : List Request) : (s.latch inp rest).readData = s.readData := rfl
@[simp] theorem State.latch_frame (s : State) (inp : Inputs) (rest : List Request) : (s.latch inp rest).frame = s.frame := rfl
@[simp] theorem State.latch_sink (s : State) (inp : Inputs) (rest : List Request) : (s.latch inp rest).sink = s.sink := rfl

@[simp] theorem State.deliver_regs (s : State) (f : Frame) : (s.deliver f).regs = s.regs := rfl
@[simp] theorem State.deliver_wave (s : State) (f : Frame) : (s.deliver f).wave = s.wave := rfl
@[simp] theorem State.deliver_chans (s : State) (f : Frame) : (s.deliver f).chans = s.chans := rfl
@[simp] theorem State.deliver_cfg (s : State) (f : Frame) : (s.deliver f).cfg = s.cfg := rfl
@[simp] theorem State.deliver_bench (s : State) (f : Frame) : (s.deliver f).bench = s.bench := rfl
@[simp] theorem State.deliver_inbox (s : State) (f : Frame) : (s.deliver f).inbox = s.inbox := rfl
@[simp] theorem State.deliver_inp (s : State) (f : Frame) : (s.deliver f).inp = s.inp := rfl
@[simp] theorem State.deliver_readData (s : State) (f : Frame) : (s.deliver f).readData = s.readData := rfl
@[simp] theorem State.deliver_frame (s : State) (f : Frame) : (s.deliver f).frame = f := rfl
@[simp] theorem State.deliver_sink (s : State) (f : Frame) : (s.deliver f).sink = if s.cfg.audioOutOff then s.sink else f :: s.sink := rfl

@[simp] theorem State.withFetchWord_regs (s : State) (n w : Nat) : (s.withFetchWord n w).regs = s.regs := rfl
@[simp] theorem State.withFetchWord_wave (s : State) (n w : Nat) : (s.withFetchWord n w).wave = s.wave := rfl
@[simp] theorem State.withFetchWord_chans (s : State) (n w : Nat) : (s.withFetchWord n w).chans = s.chans := rfl
@[simp] theorem State.withFetchWord_cfg (s : State) (n w : Nat) : (s.withFetchWord n w).cfg = s.cfg := rfl
@[simp] theorem State.withFetchWord_bench (s : State) (n w : Nat) :
    (s.withFetchWord n w).bench = (s.bench || decide (tableFormat n w ≠ .hostop52)) := rfl
@[simp] theorem State.withFetchWord_inbox (s : State) (n w : Nat) : (s.withFetchWord n w).inbox = .op (tableFormat n w) (tableBytes n w) s.inp :: s.inbox := rfl
@[simp] theorem State.withFetchWord_inp (s : State) (n w : Nat) : (s.withFetchWord n w).inp = s.inp := rfl
@[simp] theorem State.withFetchWord_readData (s : State) (n w : Nat) : (s.withFetchWord n w).readData = s.readData := rfl
@[simp] theorem State.withFetchWord_frame (s : State) (n w : Nat) : (s.withFetchWord n w).frame = s.frame := rfl
@[simp] theorem State.withFetchWord_sink (s : State) (n w : Nat) : (s.withFetchWord n w).sink = s.sink := rfl

theorem State.chan_setChan (s : State) (c d : Chan) (ch : Channel) :
    (s.setChan c ch).chan d = if d = c then ch else s.chan d := by
  unfold State.chan State.setChan
  simp only [Vector.getElem_set]
  by_cases h : c = d
  · subst h; simp
  · have : c.toNat ≠ d.toNat := fun he => h (BitVec.eq_of_toNat_eq he)
    simp [this, Ne.symm h]

@[simp] theorem State.chan_setChan_same (s : State) (c : Chan) (ch : Channel) : (s.setChan c ch).chan c = ch := by
  simp [State.chan_setChan]

theorem State.chan_setChan_other (s : State) {c d : Chan} (ch : Channel) (h : d ≠ c) : (s.setChan c ch).chan d = s.chan d := by
  simp [State.chan_setChan, h]

@[simp] theorem State.setChan_chan (s : State) (c : Chan) : s.setChan c (s.chan c) = s := by
  unfold State.setChan State.chan
  congr 1
  ext i hi
  by_cases h : c.toNat = i <;> simp [h]

@[simp] theorem State.lane_setChan (s : State) (c d : Chan) (ch : Channel) : (s.setChan c ch).lane d = s.lane d := rfl
@[simp] theorem State.lane_latch (s : State) (inp : Inputs) (rest : List Request) (d : Chan) :
    (s.latch inp rest).lane d = s.lane d := rfl
@[simp] theorem State.lane_deliver (s : State) (f : Frame) (d : Chan) : (s.deliver f).lane d = s.lane d := rfl
@[simp] theorem State.chan_latch (s : State) (inp : Inputs) (rest : List Request) (d : Chan) :
    (s.latch inp rest).chan d = s.chan d := rfl
@[simp] theorem State.chan_deliver (s : State) (f : Frame) (d : Chan) : (s.deliver f).chan d = s.chan d := rfl

@[simp] theorem State.lane_cfg (s : State) (c : Chan) : (s.lane c).cfg = s.cfg := rfl
@[simp] theorem State.lane_regs (s : State) (c : Chan) : (s.lane c).regs = s.regs := rfl
@[simp] theorem State.lane_wave (s : State) (c : Chan) : (s.lane c).wave = s.wave := rfl
@[simp] theorem State.lane_c (s : State) (c : Chan) : (s.lane c).c = c := rfl

/-- Two channel vectors that read alike in every channel are equal. -/
theorem State.chans_ext {s t : State} (h : ∀ c, s.chan c = t.chan c) : s.chans = t.chans := by
  ext i hi
  have := h (BitVec.ofNat 6 i)
  unfold State.chan at this
  simpa [Nat.mod_eq_of_lt hi] using this

/-- Two states that read alike are equal. -/
theorem State.ext_chan {s t : State} (hr : s.regs = t.regs) (hw : s.wave = t.wave) (hc : ∀ c, s.chan c = t.chan c)
    (hg : s.cfg = t.cfg) (hb : s.bench = t.bench) (hi : s.inbox = t.inbox) (hp : s.inp = t.inp) (hd : s.readData = t.readData)
    (hf : s.frame = t.frame) (hs : s.sink = t.sink) : s = t := by
  have hv := State.chans_ext hc
  cases s; cases t
  simp only at hr hw hg hb hi hp hd hf hs hv
  subst hr hw hg hb hi hp hd hf hs hv
  rfl

@[simp] theorem State.chan_reset (c : Chan) : State.reset.chan c = Channel.reset := by
  unfold State.chan State.reset
  simp

end Sys2Proof.Machine
end

