-- ==== Sys2Proof/Laws/Access.lean ====
section
/-! SUPPORT. What the register-space operations do, said once: which accesses are refused, what a WRITE's and a READ's byte loop
leave, and what clearing a command bit leaves. -/

namespace Sys2Proof.Machine

theorem mapped_iff (a : Nat) : mapped a = true ↔ a < 0x2048 ∨ (0x2800 ≤ a ∧ a < 0x2804) ∨ (0x280C ≤ a ∧ a < 0x2818) := by
  simp only [mapped, Bool.or_eq_true, decide_eq_true_eq]
  omega

/-- The refusal map and the register rows' map are the same map. -/
theorem mapped_eq_registerOffset (a : Nat) : mapped a = registerOffset a := by
  rw [Bool.eq_iff_iff, mapped_iff]
  simp only [registerOffset, Bool.or_eq_true, decide_eq_true_eq]
  omega

theorem misaligned_iff (z : Size) (a : Nat) : misaligned z a = true ↔ a % z.bytes ≠ 0 := by
  cases z <;> simp [misaligned, Size.bytes, Nat.mod_one]

theorem Size.bytes_pos (z : Size) : 1 ≤ z.bytes := by cases z <;> decide

theorem Size.bytes_le (z : Size) : z.bytes ≤ 4 := by cases z <;> decide

/-- An aligned access lies in one slot. -/
theorem aligned_in_slot {z : Size} {a : Nat} (h : a % z.bytes = 0) : a % 4 + z.bytes ≤ 4 := by
  cases z <;> simp only [Size.bytes] at h ⊢ <;> omega

/-- An access is performed exactly when it is aligned and mapped. -/
theorem accessRefusal_eq_none_iff (z : Size) (a : Nat) : accessRefusal z a = none ↔ a % z.bytes = 0 ∧ mapped a = true := by
  unfold accessRefusal
  by_cases h : misaligned z a = true
  · have := (misaligned_iff z a).1 h
    simp [h, this]
  · have h' : a % z.bytes = 0 := by
      have := mt (misaligned_iff z a).2 h
      omega
    by_cases hm : mapped a = true <;> simp [h, h', hm]

/-- `hostWrite` of an access that is performed. -/
theorem hostWrite_next {z : Size} {a : Nat} (d : Word) (s : State) (ha : a % z.bytes = 0) (hm : mapped a = true) :
    hostWrite z a d s = .next (State.sideEffects { s with regs := storeBytes s.regs a d z.bytes } z a d) := by
  unfold hostWrite
  rw [(accessRefusal_eq_none_iff z a).2 ⟨ha, hm⟩]

/-- `hostRead` of an access that is performed. -/
theorem hostRead_next {z : Size} {a : Nat} (s : State) (ha : a % z.bytes = 0) (hm : mapped a = true) :
    hostRead z a s = .next { s.statusClear z a with readData := s.readBytes a z.bytes } := by
  unfold hostRead
  rw [(accessRefusal_eq_none_iff z a).2 ⟨ha, hm⟩]

/-- The kinds of stop of an access: none when it is performed, else one of the two refusals. -/
theorem hostWrite_cases (z : Size) (a : Nat) (d : Word) (s : State) :
    (a % z.bytes ≠ 0 ∧ hostWrite z a d s = .refused .misaligned) ∨
    (a % z.bytes = 0 ∧ mapped a = false ∧ hostWrite z a d s = .refused .unmapped) ∨
    (a % z.bytes = 0 ∧ mapped a = true ∧
      hostWrite z a d s = .next (State.sideEffects { s with regs := storeBytes s.regs a d z.bytes } z a d)) := by
  by_cases ha : a % z.bytes = 0
  · have h : misaligned z a = false := by
      have := mt (misaligned_iff z a).1 (by simpa using ha)
      simpa using this
    by_cases hm : mapped a = true
    · exact .inr (.inr ⟨ha, hm, hostWrite_next d s ha hm⟩)
    · exact .inr (.inl ⟨ha, by simpa using hm, by simp [hostWrite, accessRefusal, h, hm, refuse]⟩)
  · exact .inl ⟨ha, by simp [hostWrite, accessRefusal, (misaligned_iff z a).2 ha, refuse]⟩

theorem hostRead_cases (z : Size) (a : Nat) (s : State) :
    (a % z.bytes ≠ 0 ∧ hostRead z a s = .refused .misaligned) ∨
    (a % z.bytes = 0 ∧ mapped a = false ∧ hostRead z a s = .refused .unmapped) ∨
    (a % z.bytes = 0 ∧ mapped a = true ∧
      hostRead z a s = .next { s.statusClear z a with readData := s.readBytes a z.bytes }) := by
  by_cases ha : a % z.bytes = 0
  · have h : misaligned z a = false := by
      have := mt (misaligned_iff z a).1 (by simpa using ha)
      simpa using this
    by_cases hm : mapped a = true
    · exact .inr (.inr ⟨ha, hm, hostRead_next s ha hm⟩)
    · exact .inr (.inl ⟨ha, by simpa using hm, by simp [hostRead, accessRefusal, h, hm, refuse]⟩)
  · exact .inl ⟨ha, by simp [hostRead, accessRefusal, (misaligned_iff z a).2 ha, refuse]⟩

theorem byteStored_iff (o : Nat) : byteStored o = true ↔ o % 4 < 2 ∧ ¬(0x2810 ≤ o ∧ o ≤ 0x2817) := by
  rw [byteStored, Bool.and_eq_true, Bool.not_eq_true', decide_eq_true_eq, decide_eq_false_iff_not]

/-- The bytes of the register space after a WRITE's byte loop. -/
theorem read_storeBytes (m : Memory) (a : Nat) (d : Word) (n o : Nat) :
    (storeBytes m a d n).read o = if a ≤ o ∧ o < a + n ∧ byteStored o = true then dataByte d (o - a) else m.read o := by
  induction n with
  | zero => rw [if_neg (by omega)]; rfl
  | succ n ih =>
    show (storeByte (storeBytes m a d n) (a + n) (dataByte d n)).read o = _
    unfold storeByte
    split
    · next hs =>
      rw [Memory.read_write, ih]
      by_cases ho : o = a + n
      · subst ho
        rw [if_pos rfl, if_pos ⟨by omega, by omega, hs⟩]
        congr 1; omega
      · rw [if_neg ho]
        by_cases hc : a ≤ o ∧ o < a + n ∧ byteStored o = true
        · rw [if_pos hc, if_pos ⟨hc.1, by omega, hc.2.2⟩]
        · rw [if_neg hc, if_neg fun h => hc ⟨h.1, by omega, h.2.2⟩]
    · next hs =>
      rw [ih]
      by_cases hc : a ≤ o ∧ o < a + n ∧ byteStored o = true
      · rw [if_pos hc, if_pos ⟨hc.1, by omega, hc.2.2⟩]
      · refine (if_neg hc).trans (if_neg fun h => ?_).symm
        rcases Nat.lt_or_ge o (a + n) with hlt | hge
        · exact hc ⟨h.1, hlt, h.2.2⟩
        · have : o = a + n := by omega
          subst this
          exact hs h.2.2

theorem wf_storeBytes {m : Memory} (hm : m.wf = true) (a : Nat) (d : Word) (n : Nat) : (storeBytes m a d n).wf = true := by
  induction n with
  | zero => exact hm
  | succ n ih =>
    show (storeByte _ _ _).wf = true
    unfold storeByte
    split
    · exact Memory.wf_write ih _ _
    · exact ih

/-- The bytes of the register space after a command bit has cleared itself. -/
theorem read_clearTopBit (m : Memory) (c : Chan) (k o : Nat) :
    (clearTopBit m c k).read o = if o = slotOffset c k + 1 then m.read o &&& 0x7F else m.read o := by
  unfold clearTopBit
  rw [Memory.read_write]
  split
  · next h => rw [h]
  · rfl

theorem wf_clearTopBit {m : Memory} (hm : m.wf = true) (c : Chan) (k : Nat) : (clearTopBit m c k).wf = true :=
  Memory.wf_write hm _ _

/-- The bytes of a READ's value. -/
theorem dataByte_readBytes (s : State) (a n i : Nat) (hn : n ≤ 4) (hi : i < 4) :
    dataByte (s.readBytes a n) i = if i < n then s.readByte (a + i) else 0 := by
  induction n with
  | zero => simp [State.readBytes, dataByte]
  | succ n ih =>
    have ih := ih (by omega)
    rw [State.readBytes]
    unfold dataByte at ih ⊢
    ext j hj
    have hb := congrArg (fun v : Byte => v.getLsbD j) ih
    simp only [BitVec.getLsbD_extractLsb', hj, decide_true, Bool.true_and] at hb
    rw [← BitVec.getLsbD_eq_getElem, ← BitVec.getLsbD_eq_getElem]
    simp only [BitVec.getLsbD_extractLsb', BitVec.getLsbD_or, hj, decide_true, Bool.true_and, hb,
      BitVec.getLsbD_shiftLeft, BitVec.getLsbD_setWidth]
    by_cases h1 : i < n
    · have : 8 * i + j < 8 * n := by omega
      simp [h1, this, show i < n + 1 by omega]
    · by_cases h2 : i = n
      · subst h2
        simp [show 8 * i + j < 32 by omega, show j < 32 by omega]
      · have h3 : ¬ i < n + 1 := by omega
        have : ¬ (8 * i + j - 8 * n < 8) := by omega
        simp [h1, h3]
        intros
        exact BitVec.getLsbD_of_ge _ _ (by omega)

theorem State.statusClear_of_clears {s : State} {z : Size} {a : Nat} (h : statusClears z a = true) :
    s.statusClear z a = s.setChan s.regs.mslc { s.chan s.regs.mslc with looped := false } := by
  simp [State.statusClear, h]

theorem State.statusClear_of_not {s : State} {z : Size} {a : Nat} (h : statusClears z a = false) : s.statusClear z a = s := by
  simp [State.statusClear, h]

/-- A top-bit command is stored exactly when the access covers byte 1 of the slot and sets bit 7 of it. -/
theorem topBitStored_iff (z : Size) (b : Nat) (d : Word) :
    topBitStored z b d = true ↔ b ≤ 1 ∧ 1 < b + z.bytes ∧ (dataByte d (1 - b)).getLsbD 7 = true := by
  simp [topBitStored, and_assoc]

/-- The machine's and the opcode rows' notion of a command write agree on aligned accesses. -/
theorem topBitStored_eq_topBitWritten {z : Size} {b : Nat} (d : Word) (hb : b < 4) (ha : b % z.bytes = 0) :
    topBitStored z b d = topBitWritten z b d := by
  rcases z with _ | _ | _ <;> simp only [Size.bytes] at ha
  · rcases (by omega : b = 0 ∨ b = 1 ∨ b = 2 ∨ b = 3) with rfl | rfl | rfl | rfl <;>
      simp [topBitStored, topBitWritten, dataByte, Size.bytes]
  · rcases (by omega : b = 0 ∨ b = 2) with rfl | rfl <;> simp [topBitStored, topBitWritten, dataByte, Size.bytes]
  · obtain rfl : b = 0 := by omega
    simp [topBitStored, topBitWritten, dataByte, Size.bytes]

/-- A register's value from its two bytes. -/
theorem Memory.half_toNat (m : Memory) (o : Nat) : (m.half o).toNat = (m.read (o + 1)).toNat * 256 + (m.read o).toNat := by
  unfold Memory.half
  rw [BitVec.toNat_append, Nat.shiftLeft_eq, Nat.mul_comm, ← Nat.two_pow_add_eq_or_of_lt (m.read o).isLt]

/-- A field's value from its register's. -/
theorem regField_toNat (r : Half) (lo n : Nat) : (regField r lo n).toNat = r.toNat / 2 ^ lo % 2 ^ n := by
  simp [regField, BitVec.extractLsb'_toNat, Nat.shiftRight_eq_div_pow]

/-- A one-bit field from its register's value. -/
theorem half_getLsbD (r : Half) (i : Nat) : r.getLsbD i = decide (r.toNat / 2 ^ i % 2 = 1) := by
  rw [BitVec.getLsbD, Nat.testBit_eq_decide_div_mod_eq]

end Sys2Proof.Machine
end

