-- ==== Sys2Proof/Laws/Channel.lean ====
section
/-! SUPPORT. The small lemmas of a channel's operations: the fields each leaves alone, one lemma per field, and the ranges of what
they write. -/

namespace Sys2Proof.Machine

/-! The fields an operation leaves alone. -/

@[simp] theorem Channel.disable_fegState (ch : Channel) : (ch.disable).fegState = ch.fegState := rfl
@[simp] theorem Channel.disable_ca (ch : Channel) : (ch.disable).ca = ch.ca := rfl
@[simp] theorem Channel.disable_frac (ch : Channel) : (ch.disable).frac = ch.frac := rfl
@[simp] theorem Channel.disable_s0 (ch : Channel) : (ch.disable).s0 = ch.s0 := rfl
@[simp] theorem Channel.disable_s1 (ch : Channel) : (ch.disable).s1 = ch.s1 := rfl
@[simp] theorem Channel.disable_looped (ch : Channel) : (ch.disable).looped = ch.looped := rfl
@[simp] theorem Channel.disable_q (ch : Channel) : (ch.disable).q = ch.q := rfl
@[simp] theorem Channel.disable_noise (ch : Channel) : (ch.disable).noise = ch.noise := rfl
@[simp] theorem Channel.disable_lfoCounter (ch : Channel) : (ch.disable).lfoCounter = ch.lfoCounter := rfl
@[simp] theorem Channel.disable_lfoPhase (ch : Channel) : (ch.disable).lfoPhase = ch.lfoPhase := rfl
@[simp] theorem Channel.disable_alfo (ch : Channel) : (ch.disable).alfo = ch.alfo := rfl
@[simp] theorem Channel.disable_plfo (ch : Channel) : (ch.disable).plfo = ch.plfo := rfl

@[simp] theorem Channel.disable_enabled (ch : Channel) : ch.disable.enabled = false := rfl
@[simp] theorem Channel.disable_aegState (ch : Channel) : ch.disable.aegState = .release := rfl
@[simp] theorem Channel.disable_aegFp (ch : Channel) : ch.disable.aegFp = aegMax := rfl

@[simp] theorem Channel.adpcmReset_enabled (ch : Channel) : (ch.adpcmReset).enabled = ch.enabled := rfl
@[simp] theorem Channel.adpcmReset_aegState (ch : Channel) : (ch.adpcmReset).aegState = ch.aegState := rfl
@[simp] theorem Channel.adpcmReset_aegFp (ch : Channel) : (ch.adpcmReset).aegFp = ch.aegFp := rfl
@[simp] theorem Channel.adpcmReset_fegState (ch : Channel) : (ch.adpcmReset).fegState = ch.fegState := rfl
@[simp] theorem Channel.adpcmReset_ca (ch : Channel) : (ch.adpcmReset).ca = ch.ca := rfl
@[simp] theorem Channel.adpcmReset_frac (ch : Channel) : (ch.adpcmReset).frac = ch.frac := rfl
@[simp] theorem Channel.adpcmReset_s1 (ch : Channel) : (ch.adpcmReset).s1 = ch.s1 := rfl
@[simp] theorem Channel.adpcmReset_looped (ch : Channel) : (ch.adpcmReset).looped = ch.looped := rfl
@[simp] theorem Channel.adpcmReset_noise (ch : Channel) : (ch.adpcmReset).noise = ch.noise := rfl
@[simp] theorem Channel.adpcmReset_lfoCounter (ch : Channel) : (ch.adpcmReset).lfoCounter = ch.lfoCounter := rfl
@[simp] theorem Channel.adpcmReset_lfoPhase (ch : Channel) : (ch.adpcmReset).lfoPhase = ch.lfoPhase := rfl
@[simp] theorem Channel.adpcmReset_alfo (ch : Channel) : (ch.adpcmReset).alfo = ch.alfo := rfl
@[simp] theorem Channel.adpcmReset_plfo (ch : Channel) : (ch.adpcmReset).plfo = ch.plfo := rfl

@[simp] theorem Channel.adpcmReset_q (ch : Channel) : ch.adpcmReset.q = 0x7F := rfl
@[simp] theorem Channel.adpcmReset_s0 (ch : Channel) : ch.adpcmReset.s0 = 0 := rfl

@[simp] theorem Channel.adpcmCommit_enabled (ch : Channel) (c : BitVec 4) : (ch.adpcmCommit c).enabled = ch.enabled := rfl
@[simp] theorem Channel.adpcmCommit_aegState (ch : Channel) (c : BitVec 4) : (ch.adpcmCommit c).aegState = ch.aegState := rfl
@[simp] theorem Channel.adpcmCommit_aegFp (ch : Channel) (c : BitVec 4) : (ch.adpcmCommit c).aegFp = ch.aegFp := rfl
@[simp] theorem Channel.adpcmCommit_fegState (ch : Channel) (c : BitVec 4) : (ch.adpcmCommit c).fegState = ch.fegState := rfl
@[simp] theorem Channel.adpcmCommit_ca (ch : Channel) (c : BitVec 4) : (ch.adpcmCommit c).ca = ch.ca := rfl
@[simp] theorem Channel.adpcmCommit_frac (ch : Channel) (c : BitVec 4) : (ch.adpcmCommit c).frac = ch.frac := rfl
@[simp] theorem Channel.adpcmCommit_s1 (ch : Channel) (c : BitVec 4) : (ch.adpcmCommit c).s1 = ch.s1 := rfl
@[simp] theorem Channel.adpcmCommit_looped (ch : Channel) (c : BitVec 4) : (ch.adpcmCommit c).looped = ch.looped := rfl
@[simp] theorem Channel.adpcmCommit_noise (ch : Channel) (c : BitVec 4) : (ch.adpcmCommit c).noise = ch.noise := rfl
@[simp] theorem Channel.adpcmCommit_lfoCounter (ch : Channel) (c : BitVec 4) : (ch.adpcmCommit c).lfoCounter = ch.lfoCounter := rfl
@[simp] theorem Channel.adpcmCommit_lfoPhase (ch : Channel) (c : BitVec 4) : (ch.adpcmCommit c).lfoPhase = ch.lfoPhase := rfl
@[simp] theorem Channel.adpcmCommit_alfo (ch : Channel) (c : BitVec 4) : (ch.adpcmCommit c).alfo = ch.alfo := rfl
@[simp] theorem Channel.adpcmCommit_plfo (ch : Channel) (c : BitVec 4) : (ch.adpcmCommit c).plfo = ch.plfo := rfl

@[simp] theorem Channel.adpcmLookahead_enabled (ch : Channel) (c : BitVec 4) : (ch.adpcmLookahead c).enabled = ch.enabled := rfl
@[simp] theorem Channel.adpcmLookahead_aegState (ch : Channel) (c : BitVec 4) : (ch.adpcmLookahead c).aegState = ch.aegState := rfl
@[simp] theorem Channel.adpcmLookahead_aegFp (ch : Channel) (c : BitVec 4) : (ch.adpcmLookahead c).aegFp = ch.aegFp := rfl
@[simp] theorem Channel.adpcmLookahead_fegState (ch : Channel) (c : BitVec 4) : (ch.adpcmLookahead c).fegState = ch.fegState := rfl
@[simp] theorem Channel.adpcmLookahead_ca (ch : Channel) (c : BitVec 4) : (ch.adpcmLookahead c).ca = ch.ca := rfl
@[simp] theorem Channel.adpcmLookahead_frac (ch : Channel) (c : BitVec 4) : (ch.adpcmLookahead c).frac = ch.frac := rfl
@[simp] theorem Channel.adpcmLookahead_s0 (ch : Channel) (c : BitVec 4) : (ch.adpcmLookahead c).s0 = ch.s0 := rfl
@[simp] theorem Channel.adpcmLookahead_looped (ch : Channel) (c : BitVec 4) : (ch.adpcmLookahead c).looped = ch.looped := rfl
@[simp] theorem Channel.adpcmLookahead_q (ch : Channel) (c : BitVec 4) : (ch.adpcmLookahead c).q = ch.q := rfl
@[simp] theorem Channel.adpcmLookahead_noise (ch : Channel) (c : BitVec 4) : (ch.adpcmLookahead c).noise = ch.noise := rfl
@[simp] theorem Channel.adpcmLookahead_lfoCounter (ch : Channel) (c : BitVec 4) : (ch.adpcmLookahead c).lfoCounter = ch.lfoCounter := rfl
@[simp] theorem Channel.adpcmLookahead_lfoPhase (ch : Channel) (c : BitVec 4) : (ch.adpcmLookahead c).lfoPhase = ch.lfoPhase := rfl
@[simp] theorem Channel.adpcmLookahead_alfo (ch : Channel) (c : BitVec 4) : (ch.adpcmLookahead c).alfo = ch.alfo := rfl
@[simp] theorem Channel.adpcmLookahead_plfo (ch : Channel) (c : BitVec 4) : (ch.adpcmLookahead c).plfo = ch.plfo := rfl

@[simp] theorem Channel.fetch_enabled (ch : Channel) (ln : Lane) (a : Nat) (last : Bool) : (ch.fetch ln a last).enabled = ch.enabled := by
  unfold Channel.fetch
  cases ln.format <;> cases last <;>
    simp [Channel.fetchPcm16, Channel.fetchPcm8, Channel.fetchAdpcm, Channel.fetchNoise]
@[simp] theorem Channel.fetch_aegState (ch : Channel) (ln : Lane) (a : Nat) (last : Bool) : (ch.fetch ln a last).aegState = ch.aegState := by
  unfold Channel.fetch
  cases ln.format <;> cases last <;>
    simp [Channel.fetchPcm16, Channel.fetchPcm8, Channel.fetchAdpcm, Channel.fetchNoise]
@[simp] theorem Channel.fetch_aegFp (ch : Channel) (ln : Lane) (a : Nat) (last : Bool) : (ch.fetch ln a last).aegFp = ch.aegFp := by
  unfold Channel.fetch
  cases ln.format <;> cases last <;>
    simp [Channel.fetchPcm16, Channel.fetchPcm8, Channel.fetchAdpcm, Channel.fetchNoise]
@[simp] theorem Channel.fetch_fegState (ch : Channel) (ln : Lane) (a : Nat) (last : Bool) : (ch.fetch ln a last).fegState = ch.fegState := by
  unfold Channel.fetch
  cases ln.format <;> cases last <;>
    simp [Channel.fetchPcm16, Channel.fetchPcm8, Channel.fetchAdpcm, Channel.fetchNoise]
@[simp] theorem Channel.fetch_ca (ch : Channel) (ln : Lane) (a : Nat) (last : Bool) : (ch.fetch ln a last).ca = ch.ca := by
  unfold Channel.fetch
  cases ln.format <;> cases last <;>
    simp [Channel.fetchPcm16, Channel.fetchPcm8, Channel.fetchAdpcm, Channel.fetchNoise]
@[simp] theorem Channel.fetch_frac (ch : Channel) (ln : Lane) (a : Nat) (last : Bool) : (ch.fetch ln a last).frac = ch.frac := by
  unfold Channel.fetch
  cases ln.format <;> cases last <;>
    simp [Channel.fetchPcm16, Channel.fetchPcm8, Channel.fetchAdpcm, Channel.fetchNoise]
@[simp] theorem Channel.fetch_looped (ch : Channel) (ln : Lane) (a : Nat) (last : Bool) : (ch.fetch ln a last).looped = ch.looped := by
  unfold Channel.fetch
  cases ln.format <;> cases last <;>
    simp [Channel.fetchPcm16, Channel.fetchPcm8, Channel.fetchAdpcm, Channel.fetchNoise]
@[simp] theorem Channel.fetch_lfoCounter (ch : Channel) (ln : Lane) (a : Nat) (last : Bool) : (ch.fetch ln a last).lfoCounter = ch.lfoCounter := by
  unfold Channel.fetch
  cases ln.format <;> cases last <;>
    simp [Channel.fetchPcm16, Channel.fetchPcm8, Channel.fetchAdpcm, Channel.fetchNoise]
@[simp] theorem Channel.fetch_lfoPhase (ch : Channel) (ln : Lane) (a : Nat) (last : Bool) : (ch.fetch ln a last).lfoPhase = ch.lfoPhase := by
  unfold Channel.fetch
  cases ln.format <;> cases last <;>
    simp [Channel.fetchPcm16, Channel.fetchPcm8, Channel.fetchAdpcm, Channel.fetchNoise]
@[simp] theorem Channel.fetch_alfo (ch : Channel) (ln : Lane) (a : Nat) (last : Bool) : (ch.fetch ln a last).alfo = ch.alfo := by
  unfold Channel.fetch
  cases ln.format <;> cases last <;>
    simp [Channel.fetchPcm16, Channel.fetchPcm8, Channel.fetchAdpcm, Channel.fetchNoise]
@[simp] theorem Channel.fetch_plfo (ch : Channel) (ln : Lane) (a : Nat) (last : Bool) : (ch.fetch ln a last).plfo = ch.plfo := by
  unfold Channel.fetch
  cases ln.format <;> cases last <;>
    simp [Channel.fetchPcm16, Channel.fetchPcm8, Channel.fetchAdpcm, Channel.fetchNoise]

@[simp] theorem Channel.link_enabled (ch : Channel) (ln : Lane) (ca : Nat) : (ch.link ln ca).enabled = ch.enabled := by unfold Channel.link; split <;> rfl
@[simp] theorem Channel.link_aegFp (ch : Channel) (ln : Lane) (ca : Nat) : (ch.link ln ca).aegFp = ch.aegFp := by unfold Channel.link; split <;> rfl
@[simp] theorem Channel.link_fegState (ch : Channel) (ln : Lane) (ca : Nat) : (ch.link ln ca).fegState = ch.fegState := by unfold Channel.link; split <;> rfl
@[simp] theorem Channel.link_ca (ch : Channel) (ln : Lane) (ca : Nat) : (ch.link ln ca).ca = ch.ca := by unfold Channel.link; split <;> rfl
@[simp] theorem Channel.link_frac (ch : Channel) (ln : Lane) (ca : Nat) : (ch.link ln ca).frac = ch.frac := by unfold Channel.link; split <;> rfl
@[simp] theorem Channel.link_s0 (ch : Channel) (ln : Lane) (ca : Nat) : (ch.link ln ca).s0 = ch.s0 := by unfold Channel.link; split <;> rfl
@[simp] theorem Channel.link_s1 (ch : Channel) (ln : Lane) (ca : Nat) : (ch.link ln ca).s1 = ch.s1 := by unfold Channel.link; split <;> rfl
@[simp] theorem Channel.link_looped (ch : Channel) (ln : Lane) (ca : Nat) : (ch.link ln ca).looped = ch.looped := by unfold Channel.link; split <;> rfl
@[simp] theorem Channel.link_q (ch : Channel) (ln : Lane) (ca : Nat) : (ch.link ln ca).q = ch.q := by unfold Channel.link; split <;> rfl
@[simp] theorem Channel.link_noise (ch : Channel) (ln : Lane) (ca : Nat) : (ch.link ln ca).noise = ch.noise := by unfold Channel.link; split <;> rfl
@[simp] theorem Channel.link_lfoCounter (ch : Channel) (ln : Lane) (ca : Nat) : (ch.link ln ca).lfoCounter = ch.lfoCounter := by unfold Channel.link; split <;> rfl
@[simp] theorem Channel.link_lfoPhase (ch : Channel) (ln : Lane) (ca : Nat) : (ch.link ln ca).lfoPhase = ch.lfoPhase := by unfold Channel.link; split <;> rfl
@[simp] theorem Channel.link_alfo (ch : Channel) (ln : Lane) (ca : Nat) : (ch.link ln ca).alfo = ch.alfo := by unfold Channel.link; split <;> rfl
@[simp] theorem Channel.link_plfo (ch : Channel) (ln : Lane) (ca : Nat) : (ch.link ln ca).plfo = ch.plfo := by unfold Channel.link; split <;> rfl

@[simp] theorem Channel.hitLoopEnd_fegState (ch : Channel) (ln : Lane) : (ch.hitLoopEnd ln).fegState = ch.fegState := by
  unfold Channel.hitLoopEnd; split
  · split <;> rfl
  · rfl
@[simp] theorem Channel.hitLoopEnd_ca (ch : Channel) (ln : Lane) : (ch.hitLoopEnd ln).ca = ch.ca := by
  unfold Channel.hitLoopEnd; split
  · split <;> rfl
  · rfl
@[simp] theorem Channel.hitLoopEnd_frac (ch : Channel) (ln : Lane) : (ch.hitLoopEnd ln).frac = ch.frac := by
  unfold Channel.hitLoopEnd; split
  · split <;> rfl
  · rfl
@[simp] theorem Channel.hitLoopEnd_s1 (ch : Channel) (ln : Lane) : (ch.hitLoopEnd ln).s1 = ch.s1 := by
  unfold Channel.hitLoopEnd; split
  · split <;> rfl
  · rfl
@[simp] theorem Channel.hitLoopEnd_noise (ch : Channel) (ln : Lane) : (ch.hitLoopEnd ln).noise = ch.noise := by
  unfold Channel.hitLoopEnd; split
  · split <;> rfl
  · rfl
@[simp] theorem Channel.hitLoopEnd_lfoCounter (ch : Channel) (ln : Lane) : (ch.hitLoopEnd ln).lfoCounter = ch.lfoCounter := by
  unfold Channel.hitLoopEnd; split
  · split <;> rfl
  · rfl
@[simp] theorem Channel.hitLoopEnd_lfoPhase (ch : Channel) (ln : Lane) : (ch.hitLoopEnd ln).lfoPhase = ch.lfoPhase := by
  unfold Channel.hitLoopEnd; split
  · split <;> rfl
  · rfl
@[simp] theorem Channel.hitLoopEnd_alfo (ch : Channel) (ln : Lane) : (ch.hitLoopEnd ln).alfo = ch.alfo := by
  unfold Channel.hitLoopEnd; split
  · split <;> rfl
  · rfl
@[simp] theorem Channel.hitLoopEnd_plfo (ch : Channel) (ln : Lane) : (ch.hitLoopEnd ln).plfo = ch.plfo := by
  unfold Channel.hitLoopEnd; split
  · split <;> rfl
  · rfl

@[simp] theorem Channel.hitLoopEnd_looped (ch : Channel) (ln : Lane) : (ch.hitLoopEnd ln).looped = true := by
  unfold Channel.hitLoopEnd; split
  · split <;> rfl
  · rfl

@[simp] theorem Channel.streamCross_fegState (ch : Channel) (ln : Lane) (last : Bool) : (ch.streamCross ln last).fegState = ch.fegState := by
  unfold Channel.streamCross; dsimp only; split <;> simp
@[simp] theorem Channel.streamCross_frac (ch : Channel) (ln : Lane) (last : Bool) : (ch.streamCross ln last).frac = ch.frac := by
  unfold Channel.streamCross; dsimp only; split <;> simp
@[simp] theorem Channel.streamCross_lfoCounter (ch : Channel) (ln : Lane) (last : Bool) : (ch.streamCross ln last).lfoCounter = ch.lfoCounter := by
  unfold Channel.streamCross; dsimp only; split <;> simp
@[simp] theorem Channel.streamCross_lfoPhase (ch : Channel) (ln : Lane) (last : Bool) : (ch.streamCross ln last).lfoPhase = ch.lfoPhase := by
  unfold Channel.streamCross; dsimp only; split <;> simp
@[simp] theorem Channel.streamCross_alfo (ch : Channel) (ln : Lane) (last : Bool) : (ch.streamCross ln last).alfo = ch.alfo := by
  unfold Channel.streamCross; dsimp only; split <;> simp
@[simp] theorem Channel.streamCross_plfo (ch : Channel) (ln : Lane) (last : Bool) : (ch.streamCross ln last).plfo = ch.plfo := by
  unfold Channel.streamCross; dsimp only; split <;> simp

@[simp] theorem Channel.streamRun_fegState (ch : Channel) (ln : Lane) (n : Nat) : (ch.streamRun ln n).fegState = ch.fegState := by
  induction n generalizing ch with
  | zero => rfl
  | succ n ih => rw [Channel.streamRun, ih]; simp
@[simp] theorem Channel.streamRun_frac (ch : Channel) (ln : Lane) (n : Nat) : (ch.streamRun ln n).frac = ch.frac := by
  induction n generalizing ch with
  | zero => rfl
  | succ n ih => rw [Channel.streamRun, ih]; simp
@[simp] theorem Channel.streamRun_lfoCounter (ch : Channel) (ln : Lane) (n : Nat) : (ch.streamRun ln n).lfoCounter = ch.lfoCounter := by
  induction n generalizing ch with
  | zero => rfl
  | succ n ih => rw [Channel.streamRun, ih]; simp
@[simp] theorem Channel.streamRun_lfoPhase (ch : Channel) (ln : Lane) (n : Nat) : (ch.streamRun ln n).lfoPhase = ch.lfoPhase := by
  induction n generalizing ch with
  | zero => rfl
  | succ n ih => rw [Channel.streamRun, ih]; simp
@[simp] theorem Channel.streamRun_alfo (ch : Channel) (ln : Lane) (n : Nat) : (ch.streamRun ln n).alfo = ch.alfo := by
  induction n generalizing ch with
  | zero => rfl
  | succ n ih => rw [Channel.streamRun, ih]; simp
@[simp] theorem Channel.streamRun_plfo (ch : Channel) (ln : Lane) (n : Nat) : (ch.streamRun ln n).plfo = ch.plfo := by
  induction n generalizing ch with
  | zero => rfl
  | succ n ih => rw [Channel.streamRun, ih]; simp

@[simp] theorem Channel.streamStep_fegState (ch : Channel) (ln : Lane) : (ch.streamStep ln).fegState = ch.fegState := by unfold Channel.streamStep; simp
@[simp] theorem Channel.streamStep_lfoCounter (ch : Channel) (ln : Lane) : (ch.streamStep ln).lfoCounter = ch.lfoCounter := by unfold Channel.streamStep; simp
@[simp] theorem Channel.streamStep_lfoPhase (ch : Channel) (ln : Lane) : (ch.streamStep ln).lfoPhase = ch.lfoPhase := by unfold Channel.streamStep; simp
@[simp] theorem Channel.streamStep_alfo (ch : Channel) (ln : Lane) : (ch.streamStep ln).alfo = ch.alfo := by unfold Channel.streamStep; simp
@[simp] theorem Channel.streamStep_plfo (ch : Channel) (ln : Lane) : (ch.streamStep ln).plfo = ch.plfo := by unfold Channel.streamStep; simp

@[simp] theorem Channel.streamStep_frac (ch : Channel) (ln : Lane) :
    (ch.streamStep ln).frac = BitVec.ofNat 10 (ch.frac.toNat + ln.updateRate) := by unfold Channel.streamStep; simp

@[simp] theorem Channel.aegStep_fegState (ch : Channel) (ln : Lane) : (ch.aegStep ln).fegState = ch.fegState := by
  unfold Channel.aegStep Channel.attackStep Channel.decay1Step Channel.decay2Step Channel.releaseStep
  split <;> dsimp only <;> split <;> rfl
@[simp] theorem Channel.aegStep_ca (ch : Channel) (ln : Lane) : (ch.aegStep ln).ca = ch.ca := by
  unfold Channel.aegStep Channel.attackStep Channel.decay1Step Channel.decay2Step Channel.releaseStep
  split <;> dsimp only <;> split <;> rfl
@[simp] theorem Channel.aegStep_frac (ch : Channel) (ln : Lane) : (ch.aegStep ln).frac = ch.frac := by
  unfold Channel.aegStep Channel.attackStep Channel.decay1Step Channel.decay2Step Channel.releaseStep
  split <;> dsimp only <;> split <;> rfl
@[simp] theorem Channel.aegStep_s0 (ch : Channel) (ln : Lane) : (ch.aegStep ln).s0 = ch.s0 := by
  unfold Channel.aegStep Channel.attackStep Channel.decay1Step Channel.decay2Step Channel.releaseStep
  split <;> dsimp only <;> split <;> rfl
@[simp] theorem Channel.aegStep_s1 (ch : Channel) (ln : Lane) : (ch.aegStep ln).s1 = ch.s1 := by
  unfold Channel.aegStep Channel.attackStep Channel.decay1Step Channel.decay2Step Channel.releaseStep
  split <;> dsimp only <;> split <;> rfl
@[simp] theorem Channel.aegStep_looped (ch : Channel) (ln : Lane) : (ch.aegStep ln).looped = ch.looped := by
  unfold Channel.aegStep Channel.attackStep Channel.decay1Step Channel.decay2Step Channel.releaseStep
  split <;> dsimp only <;> split <;> rfl
@[simp] theorem Channel.aegStep_q (ch : Channel) (ln : Lane) : (ch.aegStep ln).q = ch.q := by
  unfold Channel.aegStep Channel.attackStep Channel.decay1Step Channel.decay2Step Channel.releaseStep
  split <;> dsimp only <;> split <;> rfl
@[simp] theorem Channel.aegStep_noise (ch : Channel) (ln : Lane) : (ch.aegStep ln).noise = ch.noise := by
  unfold Channel.aegStep Channel.attackStep Channel.decay1Step Channel.decay2Step Channel.releaseStep
  split <;> dsimp only <;> split <;> rfl
@[simp] theorem Channel.aegStep_lfoCounter (ch : Channel) (ln : Lane) : (ch.aegStep ln).lfoCounter = ch.lfoCounter := by
  unfold Channel.aegStep Channel.attackStep Channel.decay1Step Channel.decay2Step Channel.releaseStep
  split <;> dsimp only <;> split <;> rfl
@[simp] theorem Channel.aegStep_lfoPhase (ch : Channel) (ln : Lane) : (ch.aegStep ln).lfoPhase = ch.lfoPhase := by
  unfold Channel.aegStep Channel.attackStep Channel.decay1Step Channel.decay2Step Channel.releaseStep
  split <;> dsimp only <;> split <;> rfl
@[simp] theorem Channel.aegStep_alfo (ch : Channel) (ln : Lane) : (ch.aegStep ln).alfo = ch.alfo := by
  unfold Channel.aegStep Channel.attackStep Channel.decay1Step Channel.decay2Step Channel.releaseStep
  split <;> dsimp only <;> split <;> rfl
@[simp] theorem Channel.aegStep_plfo (ch : Channel) (ln : Lane) : (ch.aegStep ln).plfo = ch.plfo := by
  unfold Channel.aegStep Channel.attackStep Channel.decay1Step Channel.decay2Step Channel.releaseStep
  split <;> dsimp only <;> split <;> rfl

@[simp] theorem Channel.lfoRecompute_enabled (ch : Channel) (ln : Lane) : (ch.lfoRecompute ln).enabled = ch.enabled := rfl
@[simp] theorem Channel.lfoRecompute_aegState (ch : Channel) (ln : Lane) : (ch.lfoRecompute ln).aegState = ch.aegState := rfl
@[simp] theorem Channel.lfoRecompute_aegFp (ch : Channel) (ln : Lane) : (ch.lfoRecompute ln).aegFp = ch.aegFp := rfl
@[simp] theorem Channel.lfoRecompute_fegState (ch : Channel) (ln : Lane) : (ch.lfoRecompute ln).fegState = ch.fegState := rfl
@[simp] theorem Channel.lfoRecompute_ca (ch : Channel) (ln : Lane) : (ch.lfoRecompute ln).ca = ch.ca := rfl
@[simp] theorem Channel.lfoRecompute_frac (ch : Channel) (ln : Lane) : (ch.lfoRecompute ln).frac = ch.frac := rfl
@[simp] theorem Channel.lfoRecompute_s0 (ch : Channel) (ln : Lane) : (ch.lfoRecompute ln).s0 = ch.s0 := rfl
@[simp] theorem Channel.lfoRecompute_s1 (ch : Channel) (ln : Lane) : (ch.lfoRecompute ln).s1 = ch.s1 := rfl
@[simp] theorem Channel.lfoRecompute_looped (ch : Channel) (ln : Lane) : (ch.lfoRecompute ln).looped = ch.looped := rfl
@[simp] theorem Channel.lfoRecompute_q (ch : Channel) (ln : Lane) : (ch.lfoRecompute ln).q = ch.q := rfl
@[simp] theorem Channel.lfoRecompute_noise (ch : Channel) (ln : Lane) : (ch.lfoRecompute ln).noise = ch.noise := rfl
@[simp] theorem Channel.lfoRecompute_lfoCounter (ch : Channel) (ln : Lane) : (ch.lfoRecompute ln).lfoCounter = ch.lfoCounter := rfl
@[simp] theorem Channel.lfoRecompute_lfoPhase (ch : Channel) (ln : Lane) : (ch.lfoRecompute ln).lfoPhase = ch.lfoPhase := rfl

@[simp] theorem Channel.lfoStep_enabled (ch : Channel) (ln : Lane) : (ch.lfoStep ln).enabled = ch.enabled := by unfold Channel.lfoStep; split <;> rfl
@[simp] theorem Channel.lfoStep_aegState (ch : Channel) (ln : Lane) : (ch.lfoStep ln).aegState = ch.aegState := by unfold Channel.lfoStep; split <;> rfl
@[simp] theorem Channel.lfoStep_aegFp (ch : Channel) (ln : Lane) : (ch.lfoStep ln).aegFp = ch.aegFp := by unfold Channel.lfoStep; split <;> rfl
@[simp] theorem Channel.lfoStep_fegState (ch : Channel) (ln : Lane) : (ch.lfoStep ln).fegState = ch.fegState := by unfold Channel.lfoStep; split <;> rfl
@[simp] theorem Channel.lfoStep_ca (ch : Channel) (ln : Lane) : (ch.lfoStep ln).ca = ch.ca := by unfold Channel.lfoStep; split <;> rfl
@[simp] theorem Channel.lfoStep_frac (ch : Channel) (ln : Lane) : (ch.lfoStep ln).frac = ch.frac := by unfold Channel.lfoStep; split <;> rfl
@[simp] theorem Channel.lfoStep_s0 (ch : Channel) (ln : Lane) : (ch.lfoStep ln).s0 = ch.s0 := by unfold Channel.lfoStep; split <;> rfl
@[simp] theorem Channel.lfoStep_s1 (ch : Channel) (ln : Lane) : (ch.lfoStep ln).s1 = ch.s1 := by unfold Channel.lfoStep; split <;> rfl
@[simp] theorem Channel.lfoStep_looped (ch : Channel) (ln : Lane) : (ch.lfoStep ln).looped = ch.looped := by unfold Channel.lfoStep; split <;> rfl
@[simp] theorem Channel.lfoStep_q (ch : Channel) (ln : Lane) : (ch.lfoStep ln).q = ch.q := by unfold Channel.lfoStep; split <;> rfl
@[simp] theorem Channel.lfoStep_noise (ch : Channel) (ln : Lane) : (ch.lfoStep ln).noise = ch.noise := by unfold Channel.lfoStep; split <;> rfl

@[simp] theorem Channel.lfoWrite_enabled (ch : Channel) (ln : Lane) (b : Bool) : (ch.lfoWrite ln b).enabled = ch.enabled := by
  unfold Channel.lfoWrite; cases ln.cfg.lfoWriteReloads <;> cases b <;> rfl
@[simp] theorem Channel.lfoWrite_aegState (ch : Channel) (ln : Lane) (b : Bool) : (ch.lfoWrite ln b).aegState = ch.aegState := by
  unfold Channel.lfoWrite; cases ln.cfg.lfoWriteReloads <;> cases b <;> rfl
@[simp] theorem Channel.lfoWrite_aegFp (ch : Channel) (ln : Lane) (b : Bool) : (ch.lfoWrite ln b).aegFp = ch.aegFp := by
  unfold Channel.lfoWrite; cases ln.cfg.lfoWriteReloads <;> cases b <;> rfl
@[simp] theorem Channel.lfoWrite_fegState (ch : Channel) (ln : Lane) (b : Bool) : (ch.lfoWrite ln b).fegState = ch.fegState := by
  unfold Channel.lfoWrite; cases ln.cfg.lfoWriteReloads <;> cases b <;> rfl
@[simp] theorem Channel.lfoWrite_ca (ch : Channel) (ln : Lane) (b : Bool) : (ch.lfoWrite ln b).ca = ch.ca := by
  unfold Channel.lfoWrite; cases ln.cfg.lfoWriteReloads <;> cases b <;> rfl
@[simp] theorem Channel.lfoWrite_frac (ch : Channel) (ln : Lane) (b : Bool) : (ch.lfoWrite ln b).frac = ch.frac := by
  unfold Channel.lfoWrite; cases ln.cfg.lfoWriteReloads <;> cases b <;> rfl
@[simp] theorem Channel.lfoWrite_s0 (ch : Channel) (ln : Lane) (b : Bool) : (ch.lfoWrite ln b).s0 = ch.s0 := by
  unfold Channel.lfoWrite; cases ln.cfg.lfoWriteReloads <;> cases b <;> rfl
@[simp] theorem Channel.lfoWrite_s1 (ch : Channel) (ln : Lane) (b : Bool) : (ch.lfoWrite ln b).s1 = ch.s1 := by
  unfold Channel.lfoWrite; cases ln.cfg.lfoWriteReloads <;> cases b <;> rfl
@[simp] theorem Channel.lfoWrite_looped (ch : Channel) (ln : Lane) (b : Bool) : (ch.lfoWrite ln b).looped = ch.looped := by
  unfold Channel.lfoWrite; cases ln.cfg.lfoWriteReloads <;> cases b <;> rfl
@[simp] theorem Channel.lfoWrite_q (ch : Channel) (ln : Lane) (b : Bool) : (ch.lfoWrite ln b).q = ch.q := by
  unfold Channel.lfoWrite; cases ln.cfg.lfoWriteReloads <;> cases b <;> rfl
@[simp] theorem Channel.lfoWrite_noise (ch : Channel) (ln : Lane) (b : Bool) : (ch.lfoWrite ln b).noise = ch.noise := by
  unfold Channel.lfoWrite; cases ln.cfg.lfoWriteReloads <;> cases b <;> rfl

@[simp] theorem Channel.fegStep_eq (ch : Channel) : ch.fegStep = ch := rfl

/-! Ranges. -/

theorem clip16_range (v : Int) : -32768 ≤ clip16 v ∧ clip16 v ≤ 32767 := by
  unfold clip16 clamp; omega

theorem clip16_of_range {v : Int} (h : -32768 ≤ v ∧ v ≤ 32767) : clip16 v = v := by
  unfold clip16 clamp; omega

theorem adpcmNextStep_range (m q : Nat) : 0x7F ≤ adpcmNextStep m q ∧ adpcmNextStep m q ≤ 0x6000 := by
  unfold adpcmNextStep; omega

theorem adpcmDecode_sample_range (c : BitVec 4) (prev : Int) (q : Nat) :
    -32768 ≤ (adpcmDecode c prev q).1 ∧ (adpcmDecode c prev q).1 ≤ 32767 := clip16_range _

theorem adpcmDecode_step_range (c : BitVec 4) (prev : Int) (q : Nat) :
    0x7F ≤ (adpcmDecode c prev q).2 ∧ (adpcmDecode c prev q).2 ≤ 0x6000 := adpcmNextStep_range _ _

theorem half_toInt_range (h : Half) : -32768 ≤ h.toInt ∧ h.toInt ≤ 32767 := by
  have h1 := h.le_toInt
  have h2 := h.toInt_lt
  norm_num at h1 h2
  omega

theorem byte_scaled_range (b : Byte) : -32768 ≤ b.toInt * 2 ^ 8 ∧ b.toInt * 2 ^ 8 ≤ 32767 := by
  have h1 := b.le_toInt
  have h2 := b.toInt_lt
  norm_num at h1 h2 ⊢
  omega

/-- `NOISE_NEXT` on numbers. -/
theorem noiseNext_eq_ofNat (x : BitVec 32) : noiseNext x = BitVec.ofNat 32 (x.toNat * 16807 + 0xBEEF) := by
  unfold noiseNext
  rw [BitVec.ofNat_add, BitVec.ofNat_mul, BitVec.ofNat_toNat, BitVec.setWidth_eq]
  rfl

/-- `NOISE_SAMPLE` on numbers. -/
theorem noiseSample_eq_ofNat (x : BitVec 32) : noiseSample x = (BitVec.ofNat 16 (x.toNat / 65536)).toInt := by
  unfold noiseSample
  apply congrArg
  apply BitVec.eq_of_toNat_eq
  simp [BitVec.extractLsb'_toNat, Nat.shiftRight_eq_div_pow]

/-- `1024 | FNS` is a sum (41_stream.md R150). -/
theorem or_1024 (f : BitVec 10) : 1024 ||| f.toNat = 1024 + f.toNat := by
  have key : ∀ f : BitVec 10, 1024 ||| f.toNat = 1024 + f.toNat := by decide +kernel
  exact key f

theorem lfoStart_range (n : BitVec 5) : 1 ≤ lfoStart n ∧ lfoStart n ≤ 1020 := by
  have key : ∀ n : BitVec 5, (decide (1 ≤ lfoStart n) && decide (lfoStart n ≤ 1020)) = true := by decide
  have := key n
  simpa using this

theorem lfoDepth_le (v : BitVec 8) (d : BitVec 3) : (lfoDepth v d).toNat ≤ 127 := by
  unfold lfoDepth
  rw [BitVec.toNat_ushiftRight, Nat.shiftRight_eq_div_pow]
  have hv := v.isLt
  have hd := d.isLt
  have : 2 ^ 1 ≤ 2 ^ (8 - d.toNat) := Nat.pow_le_pow_right (by decide) (by omega)
  calc v.toNat / 2 ^ (8 - d.toNat) ≤ v.toNat / 2 ^ 1 := Nat.div_le_div_left this (by decide)
    _ ≤ 127 := by omega

theorem Channel.adpcmCommit_ranges (ch : Channel) (c : BitVec 4) :
    (-32768 ≤ (ch.adpcmCommit c).s0 ∧ (ch.adpcmCommit c).s0 ≤ 32767) ∧
    (0x7F ≤ (ch.adpcmCommit c).q ∧ (ch.adpcmCommit c).q ≤ 0x6000) :=
  ⟨adpcmDecode_sample_range c ch.s0 ch.q, adpcmDecode_step_range c ch.s0 ch.q⟩

theorem Channel.adpcmLookahead_range (ch : Channel) (c : BitVec 4) :
    -32768 ≤ (ch.adpcmLookahead c).s1 ∧ (ch.adpcmLookahead c).s1 ≤ 32767 := adpcmDecode_sample_range c ch.s0 ch.q

/-- The samples and the step that a fetch leaves are in range when they were. -/
theorem Channel.fetch_ranges {ch : Channel} (ln : Lane) (a : Nat) (last : Bool)
    (h0 : -32768 ≤ ch.s0 ∧ ch.s0 ≤ 32767) (h1 : -32768 ≤ ch.s1 ∧ ch.s1 ≤ 32767) (hq : 0x7F ≤ ch.q ∧ ch.q ≤ 0x6000) :
    (-32768 ≤ (ch.fetch ln a last).s0 ∧ (ch.fetch ln a last).s0 ≤ 32767) ∧
    (-32768 ≤ (ch.fetch ln a last).s1 ∧ (ch.fetch ln a last).s1 ≤ 32767) ∧
    (0x7F ≤ (ch.fetch ln a last).q ∧ (ch.fetch ln a last).q ≤ 0x6000) := by
  have hc := ch.adpcmCommit_ranges (ln.adpcmCode a)
  have hl := (ch.adpcmCommit (ln.adpcmCode a)).adpcmLookahead_range (ln.adpcmCode (a + 1))
  unfold Channel.fetch
  cases ln.format <;> cases last <;> dsimp only
  · exact ⟨h0, h1, hq⟩
  · exact ⟨half_toInt_range _, half_toInt_range _, hq⟩
  · exact ⟨h0, h1, hq⟩
  · exact ⟨byte_scaled_range _, byte_scaled_range _, hq⟩
  · exact ⟨hc.1, h1, hc.2⟩
  · exact ⟨hc.1, hl, hc.2⟩
  · exact ⟨hc.1, h1, hc.2⟩
  · exact ⟨hc.1, hl, hc.2⟩
  · exact ⟨h0, h1, hq⟩
  · exact ⟨half_toInt_range _, half_toInt_range _, hq⟩

end Sys2Proof.Machine
end

