-- ==== Sys2Proof/Laws/Decode.lean ====
section
/-! SUPPORT. What the pieces of the decoder and of the encoder do, said once: bytes and numbers, the fields of a host operation's
word, and the offsets of the register map. -/

namespace Sys2Proof

@[simp] theorem length_leBytes (n w : Nat) : (leBytes n w).length = n := by
  induction n generalizing w with
  | zero => rfl
  | succ n ih => simp [leBytes, ih]

/-- The bytes of a word stand for its low bits. -/
theorem ofLeBytes_leBytes (n w : Nat) : ofLeBytes (leBytes n w) = w % 256 ^ n := by
  induction n generalizing w with
  | zero => simp [leBytes, ofLeBytes, Nat.mod_one]
  | succ n ih =>
    simp only [leBytes, ofLeBytes, ih, BitVec.toNat_ofNat]
    rw [show 256 ^ (n + 1) = 256 * 256 ^ n from pow_succ' _ _, Nat.mod_mul]

/-- The fields of a host operation's word are read back from it, and it has no bit above its 52. -/
theorem hostWord_fields {k z a d : Nat} (hk : k < 4) (hz : z < 4) (ha : a < 65536) (hd : d < 2 ^ 32) :
    bitsAt (hostWord k z a d) 50 2 = k ∧ bitsAt (hostWord k z a d) 48 2 = z ∧ bitsAt (hostWord k z a d) 32 16 = a ∧
    hostWord k z a d % 2 ^ 32 = d ∧ hostWord k z a d < 2 ^ 52 := by
  unfold bitsAt hostWord
  norm_num at hd ⊢
  omega

theorem Size.code_lt (z : Size) : z.code < 4 := by cases z <;> decide

theorem Size.ofCode_code (z : Size) : Size.ofCode z.code = some z := by cases z <;> rfl

theorem readWord_lt (z : Size) {a : Nat} (ha : a < 65536) : readWord z a < 2 ^ 52 :=
  (hostWord_fields (by decide) z.code_lt ha (by decide)).2.2.2.2

theorem writeWord_lt (z : Size) {a : Nat} (d : Word) (ha : a < 65536) : writeWord z a d < 2 ^ 52 :=
  (hostWord_fields (by decide) z.code_lt ha d.isLt).2.2.2.2

/-- A WRITE's word is of kind 10. -/
theorem writeWord_kind (z : Size) {a : Nat} (d : Word) (ha : a < 65536) : writeWord z a d / 2 ^ 50 = 2 := by
  have hd := d.isLt
  cases z <;> simp only [writeWord, hostWord, Size.code] <;> omega

/-- A word that fits its format is decoded from its bytes. -/
theorem decode_leBytes (f : WordFormat) {w : Nat} (h : w < 2 ^ f.width) : decode f (leBytes f.bytes w) = .ok (decodeWord f w) := by
  have h2 : w < 256 ^ f.bytes := lt_of_lt_of_le h (by cases f <;> decide)
  unfold decode
  rw [if_pos (length_leBytes _ _), ofLeBytes_leBytes, Nat.mod_eq_of_lt h2, if_pos h]

theorem ofNat_eq_of_mod {n : Nat} (b : BitVec n) (x : Nat) (h : x % 2 ^ n = b.toNat) : BitVec.ofNat n x = b :=
  BitVec.eq_of_toNat_eq (by simpa using h)

theorem chOffset_lt (c : Chan) {k : Nat} (b : BitVec 2) (hk : k < 32) : chOffset c k b < 0x2000 := by
  have hc := c.isLt
  have hb := b.isLt
  unfold chOffset
  omega

/-- The channel, the slot and the byte of a channel register's offset are read back from it. -/
theorem chOffset_fields (c : Chan) {k : Nat} (b : BitVec 2) (hk : k < 32) :
    BitVec.ofNat 6 (chOffset c k b / 128) = c ∧ chOffset c k b / 4 % 32 = k ∧ BitVec.ofNat 2 (chOffset c k b) = b := by
  have hc := c.isLt
  have hb := b.isLt
  unfold chOffset
  exact ⟨ofNat_eq_of_mod _ _ (by omega), by omega, ofNat_eq_of_mod _ _ (by omega)⟩

theorem efsOffset_lt {k : Nat} (b : BitVec 2) (hk : k < 18) : efsOffset k b < 0x2048 := by
  have hb := b.isLt
  unfold efsOffset
  omega

/-- The send slot and the byte of a send register's offset are read back from it. -/
theorem efsOffset_fields {k : Nat} (b : BitVec 2) : efsOffset k b / 4 = 0x800 + k ∧ BitVec.ofNat 2 (efsOffset k b) = b := by
  have hb := b.isLt
  unfold efsOffset
  exact ⟨by omega, ofNat_eq_of_mod _ _ (by omega)⟩

end Sys2Proof
end

