-- ==== Sys2Proof/Laws/Tick.lean ====
section
/-! SUPPORT. What the turns of the channels do, said once. -/

namespace Sys2Proof.Machine

@[simp] theorem State.tickUpTo_regs (s : State) (n : Nat) : (s.tickUpTo n).1.regs = s.regs := by
  induction n with
  | zero => rfl
  | succ n ih => exact ih

@[simp] theorem State.tickUpTo_wave (s : State) (n : Nat) : (s.tickUpTo n).1.wave = s.wave := by
  induction n with
  | zero => rfl
  | succ n ih => exact ih

@[simp] theorem State.tickUpTo_cfg (s : State) (n : Nat) : (s.tickUpTo n).1.cfg = s.cfg := by
  induction n with
  | zero => rfl
  | succ n ih => exact ih

@[simp] theorem State.tickUpTo_bench (s : State) (n : Nat) : (s.tickUpTo n).1.bench = s.bench := by
  induction n with
  | zero => rfl
  | succ n ih => exact ih

@[simp] theorem State.tickUpTo_inbox (s : State) (n : Nat) : (s.tickUpTo n).1.inbox = s.inbox := by
  induction n with
  | zero => rfl
  | succ n ih => exact ih

@[simp] theorem State.tickUpTo_inp (s : State) (n : Nat) : (s.tickUpTo n).1.inp = s.inp := by
  induction n with
  | zero => rfl
  | succ n ih => exact ih

@[simp] theorem State.tickUpTo_readData (s : State) (n : Nat) : (s.tickUpTo n).1.readData = s.readData := by
  induction n with
  | zero => rfl
  | succ n ih => exact ih

@[simp] theorem State.tickUpTo_frame (s : State) (n : Nat) : (s.tickUpTo n).1.frame = s.frame := by
  induction n with
  | zero => rfl
  | succ n ih => exact ih

@[simp] theorem State.tickUpTo_sink (s : State) (n : Nat) : (s.tickUpTo n).1.sink = s.sink := by
  induction n with
  | zero => rfl
  | succ n ih => exact ih

/-- After the turns of the first `n` channels, exactly those have had theirs. -/
theorem State.chan_tickUpTo (s : State) {n : Nat} (hn : n ≤ 64) (j : Chan) :
    (s.tickUpTo n).1.chan j = if j.toNat < n then (s.chan j).turn (s.lane j) else s.chan j := by
  induction n with
  | zero => simp [State.tickUpTo]
  | succ n ih =>
    have ih := ih (by omega)
    have hl : (s.tickUpTo n).1.lane j = s.lane j := by
      unfold State.lane; simp
    show ((s.tickUpTo n).1.setChan (BitVec.ofNat 6 n) _).chan j = _
    rw [State.chan_setChan]
    by_cases h : j = BitVec.ofNat 6 n
    · subst h
      have hv : (BitVec.ofNat 6 n).toNat = n := by simp; omega
      rw [if_pos rfl, hl, ih, if_neg (by omega), if_pos (by omega)]
    · have hv : j.toNat ≠ n := fun he => h (BitVec.eq_of_toNat_eq (by simp; omega))
      rw [if_neg h, ih]
      by_cases hj : j.toNat < n
      · rw [if_pos hj, if_pos (by omega)]
      · rw [if_neg hj, if_neg (by omega)]

/-- The sums after the turns of the first `n + 1` channels: channel `n` adds to what stood before, from its state before the TICK. -/
theorem State.mix_tickUpTo_succ (s : State) {n : Nat} (hn : n < 64) :
    (s.tickUpTo (n + 1)).2 = (s.chan (BitVec.ofNat 6 n)).turnMix (s.lane (BitVec.ofNat 6 n)) (s.tickUpTo n).2 := by
  have hv : (BitVec.ofNat 6 n).toNat = n := by simp; omega
  have hl : (s.tickUpTo n).1.lane (BitVec.ofNat 6 n) = s.lane (BitVec.ofNat 6 n) := by
    unfold State.lane; simp
  have hc := State.chan_tickUpTo s (Nat.le_of_lt hn) (BitVec.ofNat 6 n)
  rw [if_neg (by omega)] at hc
  show ((s.tickUpTo n).1.chan (BitVec.ofNat 6 n)).turnMix ((s.tickUpTo n).1.lane (BitVec.ofNat 6 n)) (s.tickUpTo n).2 = _
  rw [hc, hl]

/-- After a TICK every channel has had its turn. -/
theorem State.chan_mixTick (s : State) (j : Chan) : s.mixTick.chan j = (s.chan j).turn (s.lane j) := by
  unfold State.mixTick
  rw [State.chan_deliver, State.chan_tickUpTo s (by decide) j, if_pos (show j.toNat < nch from j.isLt)]

@[simp] theorem State.regs_mixTick (s : State) : s.mixTick.regs = s.regs := by
  unfold State.mixTick; simp

@[simp] theorem State.wave_mixTick (s : State) : s.mixTick.wave = s.wave := by
  unfold State.mixTick; simp

@[simp] theorem State.cfg_mixTick (s : State) : s.mixTick.cfg = s.cfg := by
  unfold State.mixTick; simp

@[simp] theorem State.bench_mixTick (s : State) : s.mixTick.bench = s.bench := by
  unfold State.mixTick; simp

@[simp] theorem State.inbox_mixTick (s : State) : s.mixTick.inbox = s.inbox := by
  unfold State.mixTick; simp

@[simp] theorem State.inp_mixTick (s : State) : s.mixTick.inp = s.inp := by
  unfold State.mixTick; simp

@[simp] theorem State.readData_mixTick (s : State) : s.mixTick.readData = s.readData := by
  unfold State.mixTick; simp

/-- The output stage reads the registers, the configuration and the inputs only. -/
theorem State.outputStage_congr {s t : State} (hr : t.regs = s.regs) (hc : t.cfg = s.cfg) (hi : t.inp = s.inp) (m : Frame) :
    t.outputStage m = s.outputStage m := by
  unfold State.outputStage State.cdInject; rw [hr, hc, hi]

/-- The frame of a TICK. -/
theorem State.frame_mixTick (s : State) : s.mixTick.frame = s.outputStage (s.tickUpTo 64).2 :=
  State.outputStage_congr (by simp) (by simp) (by simp) _

/-- The sink after a TICK. -/
theorem State.sink_mixTick (s : State) :
    s.mixTick.sink = if s.cfg.audioOutOff then s.sink else s.outputStage (s.tickUpTo 64).2 :: s.sink := by
  unfold State.mixTick
  rw [State.deliver_sink, State.tickUpTo_cfg, State.tickUpTo_sink,
    State.outputStage_congr (s := s) (by simp) (by simp) (by simp)]
  rfl

end Sys2Proof.Machine
end

