-- ==== Sys2Proof/Laws/Write.lean ====
section
/-! SUPPORT. What the key-on-execute action, the LFO update of a WRITE and a whole WRITE do, said once. -/

namespace Sys2Proof.Machine

@[simp] theorem State.keyUpTo_regs (s : State) (n : Nat) : (s.keyUpTo n).regs = s.regs := by
  induction n with
  | zero => rfl
  | succ n ih => exact ih

@[simp] theorem State.keyUpTo_wave (s : State) (n : Nat) : (s.keyUpTo n).wave = s.wave := by
  induction n with
  | zero => rfl
  | succ n ih => exact ih

@[simp] theorem State.keyUpTo_cfg (s : State) (n : Nat) : (s.keyUpTo n).cfg = s.cfg := by
  induction n with
  | zero => rfl
  | succ n ih => exact ih

@[simp] theorem State.keyUpTo_bench (s : State) (n : Nat) : (s.keyUpTo n).bench = s.bench := by
  induction n with
  | zero => rfl
  | succ n ih => exact ih

@[simp] theorem State.keyUpTo_inbox (s : State) (n : Nat) : (s.keyUpTo n).inbox = s.inbox := by
  induction n with
  | zero => rfl
  | succ n ih => exact ih

@[simp] theorem State.keyUpTo_inp (s : State) (n : Nat) : (s.keyUpTo n).inp = s.inp := by
  induction n with
  | zero => rfl
  | succ n ih => exact ih

@[simp] theorem State.keyUpTo_readData (s : State) (n : Nat) : (s.keyUpTo n).readData = s.readData := by
  induction n with
  | zero => rfl
  | succ n ih => exact ih

@[simp] theorem State.keyUpTo_frame (s : State) (n : Nat) : (s.keyUpTo n).frame = s.frame := by
  induction n with
  | zero => rfl
  | succ n ih => exact ih

@[simp] theorem State.keyUpTo_sink (s : State) (n : Nat) : (s.keyUpTo n).sink = s.sink := by
  induction n with
  | zero => rfl
  | succ n ih => exact ih

theorem State.lane_congr {s t : State} (hr : t.regs = s.regs) (hw : t.wave = s.wave) (hc : t.cfg = s.cfg) (c : Chan) :
    t.lane c = s.lane c := by
  unfold State.lane; rw [hr, hw, hc]

/-- After the action on the first `n` channels, exactly those have been keyed. -/
theorem State.chan_keyUpTo (s : State) {n : Nat} (hn : n ≤ 64) (j : Chan) :
    (s.keyUpTo n).chan j = if j.toNat < n then (s.chan j).keyExecute (s.lane j) else s.chan j := by
  induction n with
  | zero => simp [State.keyUpTo]
  | succ n ih =>
    have ih := ih (by omega)
    have hl : (s.keyUpTo n).lane j = s.lane j := State.lane_congr (by simp) (by simp) (by simp) j
    show ((s.keyUpTo n).setChan (BitVec.ofNat 6 n) _).chan j = _
    rw [State.chan_setChan]
    by_cases h : j = BitVec.ofNat 6 n
    · subst h
      have hv : (BitVec.ofNat 6 n).toNat = n := by simp; omega
      rw [if_pos rfl, hl, ih, if_neg (by omega), if_pos (by omega)]
    · have hv : j.toNat ≠ n := fun he => h (BitVec.eq_of_toNat_eq (by simp; omega))
      rw [if_neg h, ih]
      by_cases hj : j.toNat < n
      · rw [if_pos hj, if_pos (by omega)]
      · rw [if_neg hj, if_neg (by omega)]

/-- The key-on-execute action keys every channel. -/
theorem State.chan_kyonexAction (s : State) (c j : Chan) :
    (s.kyonexAction c).chan j = (s.chan j).keyExecute (s.lane j) := by
  show (s.keyUpTo nch).chan j = _
  rw [State.chan_keyUpTo s (by decide) j, if_pos (show j.toNat < nch from j.isLt)]

@[simp] theorem State.regs_kyonexAction (s : State) (c : Chan) : (s.kyonexAction c).regs = clearTopBit s.regs c 0 := by
  unfold State.kyonexAction; simp

@[simp] theorem State.wave_kyonexAction (s : State) (c : Chan) : (s.kyonexAction c).wave = s.wave := by
  unfold State.kyonexAction; simp

@[simp] theorem State.cfg_kyonexAction (s : State) (c : Chan) : (s.kyonexAction c).cfg = s.cfg := by
  unfold State.kyonexAction; simp

@[simp] theorem State.bench_kyonexAction (s : State) (c : Chan) : (s.kyonexAction c).bench = s.bench := by
  unfold State.kyonexAction; simp

@[simp] theorem State.inbox_kyonexAction (s : State) (c : Chan) : (s.kyonexAction c).inbox = s.inbox := by
  unfold State.kyonexAction; simp

@[simp] theorem State.inp_kyonexAction (s : State) (c : Chan) : (s.kyonexAction c).inp = s.inp := by
  unfold State.kyonexAction; simp

@[simp] theorem State.readData_kyonexAction (s : State) (c : Chan) : (s.kyonexAction c).readData = s.readData := by
  unfold State.kyonexAction; simp

@[simp] theorem State.frame_kyonexAction (s : State) (c : Chan) : (s.kyonexAction c).frame = s.frame := by
  unfold State.kyonexAction; simp

@[simp] theorem State.sink_kyonexAction (s : State) (c : Chan) : (s.kyonexAction c).sink = s.sink := by
  unfold State.kyonexAction; simp

/-- The LFO update of a WRITE touches the one channel. -/
theorem State.chan_lfoWriteAction (s : State) (c j : Chan) (b : Bool) :
    (s.lfoWriteAction c b).chan j = if j = c then (s.chan c).lfoWrite (s.lane c) b else s.chan j := by
  unfold State.lfoWriteAction
  cases b
  · exact State.chan_setChan _ _ _ _
  · exact State.chan_setChan _ _ _ _

@[simp] theorem State.regs_lfoWriteAction (s : State) (c : Chan) (b : Bool) :
    (s.lfoWriteAction c b).regs = if b then clearTopBit s.regs c 7 else s.regs := by
  cases b <;> rfl

@[simp] theorem State.wave_lfoWriteAction (s : State) (c : Chan) (b : Bool) : (s.lfoWriteAction c b).wave = s.wave := by
  cases b <;> rfl

@[simp] theorem State.cfg_lfoWriteAction (s : State) (c : Chan) (b : Bool) : (s.lfoWriteAction c b).cfg = s.cfg := by
  cases b <;> rfl

@[simp] theorem State.bench_lfoWriteAction (s : State) (c : Chan) (b : Bool) : (s.lfoWriteAction c b).bench = s.bench := by
  cases b <;> rfl

@[simp] theorem State.inbox_lfoWriteAction (s : State) (c : Chan) (b : Bool) : (s.lfoWriteAction c b).inbox = s.inbox := by
  cases b <;> rfl

@[simp] theorem State.inp_lfoWriteAction (s : State) (c : Chan) (b : Bool) : (s.lfoWriteAction c b).inp = s.inp := by
  cases b <;> rfl

@[simp] theorem State.readData_lfoWriteAction (s : State) (c : Chan) (b : Bool) : (s.lfoWriteAction c b).readData = s.readData := by
  cases b <;> rfl

@[simp] theorem State.frame_lfoWriteAction (s : State) (c : Chan) (b : Bool) : (s.lfoWriteAction c b).frame = s.frame := by
  cases b <;> rfl

@[simp] theorem State.sink_lfoWriteAction (s : State) (c : Chan) (b : Bool) : (s.lfoWriteAction c b).sink = s.sink := by
  cases b <;> rfl

/-- The side effects of a WRITE are one of: the LFO update, the key-on-execute action, nothing. -/
theorem State.sideEffects_cases (s : State) (z : Size) (a : Nat) (d : Word) :
    (a < 0x2000 ∧ a / 4 % 32 = 7 ∧ a % 4 < 2 ∧
      s.sideEffects z a d = s.lfoWriteAction (BitVec.ofNat 6 (a / 128)) (topBitStored z (a % 4) d)) ∨
    (a < 0x2000 ∧ a / 4 % 32 = 0 ∧ topBitStored z (a % 4) d = true ∧
      s.sideEffects z a d = s.kyonexAction (BitVec.ofNat 6 (a / 128))) ∨
    (¬(a < 0x2000 ∧ a / 4 % 32 = 7 ∧ a % 4 < 2) ∧ ¬(a < 0x2000 ∧ a / 4 % 32 = 0 ∧ topBitStored z (a % 4) d = true) ∧
      s.sideEffects z a d = s) := by
  have hs : slotByteStored (a % 4) = true ↔ a % 4 < 2 := by simp [slotByteStored]
  unfold State.sideEffects
  by_cases h1 : a < 0x2000
  · simp only [h1, if_true, true_and]
    by_cases h7 : a / 4 % 32 = 7 ∧ slotByteStored (a % 4) = true
    · exact .inl ⟨h7.1, hs.1 h7.2, by rw [if_pos h7]⟩
    · rw [if_neg h7]
      by_cases h0 : a / 4 % 32 = 0 ∧ topBitStored z (a % 4) d = true
      · exact .inr (.inl ⟨h0.1, h0.2, by rw [if_pos h0]⟩)
      · exact .inr (.inr ⟨fun h => h7 ⟨h.1, hs.2 h.2⟩, h0, by rw [if_neg h0]⟩)
  · exact .inr (.inr ⟨fun h => h1 h.1, fun h => h1 h.1, by rw [if_neg h1]⟩)

/-- A WRITE's side effects leave everything but the channels and the register bytes. -/
theorem State.sideEffects_frame (s : State) (z : Size) (a : Nat) (d : Word) :
    (s.sideEffects z a d).wave = s.wave ∧ (s.sideEffects z a d).cfg = s.cfg ∧ (s.sideEffects z a d).bench = s.bench ∧
    (s.sideEffects z a d).inbox = s.inbox ∧
    (s.sideEffects z a d).inp = s.inp ∧ (s.sideEffects z a d).readData = s.readData ∧
    (s.sideEffects z a d).frame = s.frame ∧ (s.sideEffects z a d).sink = s.sink := by
  rcases s.sideEffects_cases z a d with ⟨_, _, _, h⟩ | ⟨_, _, _, h⟩ | ⟨_, _, h⟩ <;> rw [h] <;> simp

end Sys2Proof.Machine
end

