-- ==== Sys2Proof/Laws/Exec.lean ====
section
/-! SUPPORT. What an instruction can do when it answers a next state, said once over the shared operations. -/

namespace Sys2Proof.Machine

theorem chB (c : Chan) {k : Nat} (b : BitVec 2) (hk : k < 32) : chOffset c k b < 65536 :=
  Nat.lt_trans (chOffset_lt c b hk) (by decide)

theorem efB {k : Nat} (b : BitVec 2) (hk : k < 18) : efsOffset k b < 65536 := Nat.lt_trans (efsOffset_lt b hk) (by decide)

/-- A next state is that of an ADPCM code, of a TICK, of a READ, of a WRITE (whose word is of kind 10), of an envelope state, of a
waveform, or of a fetch on the channel being processed. -/
theorem exec_next_cases (i : Instr) (s t : State) (h : exec i s = .next t) :
    (∃ c, t = s.adpcmUnit c) ∨ t = s.mixTick ∨ (∃ z a, hostRead z a s = .next t) ∨
    (∃ z a d, hostWrite z a d s = .next t ∧ encodeWord i / 2 ^ 50 = 2 ∧ i.format = .hostop52) ∨
    (∃ st, t = s.aegUnit st) ∨ (∃ w, t = s.lfoUnit w) ∨
    ∃ ch : Channel, t = s.setChan s.inp.channel ch ∧
      (ch = (s.chan s.inp.channel).fetchPcm16 (s.lane s.inp.channel) s.inp.addr s.inp.last ∨
       ch = (s.chan s.inp.channel).fetchPcm8 (s.lane s.inp.channel) s.inp.addr s.inp.last ∨
       ch = (s.chan s.inp.channel).fetchAdpcm (s.lane s.inp.channel) s.inp.addr s.inp.last ∨
       ch = (s.chan s.inp.channel).fetchNoise s.inp.last) := by
  cases i
  case adpcm0 => exact .inl ⟨_, by cases h; rfl⟩
  case adpcm1 => exact .inl ⟨_, by cases h; rfl⟩
  case adpcm2 => exact .inl ⟨_, by cases h; rfl⟩
  case adpcm3 => exact .inl ⟨_, by cases h; rfl⟩
  case adpcm4 => exact .inl ⟨_, by cases h; rfl⟩
  case adpcm5 => exact .inl ⟨_, by cases h; rfl⟩
  case adpcm6 => exact .inl ⟨_, by cases h; rfl⟩
  case adpcm7 => exact .inl ⟨_, by cases h; rfl⟩
  case adpcm8 => exact .inl ⟨_, by cases h; rfl⟩
  case adpcm9 => exact .inl ⟨_, by cases h; rfl⟩
  case adpcmA => exact .inl ⟨_, by cases h; rfl⟩
  case adpcmB => exact .inl ⟨_, by cases h; rfl⟩
  case adpcmC => exact .inl ⟨_, by cases h; rfl⟩
  case adpcmD => exact .inl ⟨_, by cases h; rfl⟩
  case adpcmE => exact .inl ⟨_, by cases h; rfl⟩
  case adpcmF => exact .inl ⟨_, by cases h; rfl⟩
  case tick => exact .inr (.inl (by cases h; rfl))
  case read z a => exact .inr (.inr (.inl ⟨_, _, h⟩))
  case write z a d => exact .inr (.inr (.inr (.inl ⟨_, _, _, h, writeWord_kind _ _ a.isLt, rfl⟩)))
  case reservedOp => exact nomatch h
  case readBadsize => exact nomatch h
  case writeBadsize => exact nomatch h
  case writeChSlot0 z c b d => exact .inr (.inr (.inr (.inl ⟨_, _, _, h, writeWord_kind _ _ (chB _ _ (by decide)), rfl⟩)))
  case readChSlot0 z c b => exact .inr (.inr (.inl ⟨_, _, h⟩))
  case writeChSlot1 z c b d => exact .inr (.inr (.inr (.inl ⟨_, _, _, h, writeWord_kind _ _ (chB _ _ (by decide)), rfl⟩)))
  case readChSlot1 z c b => exact .inr (.inr (.inl ⟨_, _, h⟩))
  case writeChSlot2 z c b d => exact .inr (.inr (.inr (.inl ⟨_, _, _, h, writeWord_kind _ _ (chB _ _ (by decide)), rfl⟩)))
  case readChSlot2 z c b => exact .inr (.inr (.inl ⟨_, _, h⟩))
  case writeChSlot3 z c b d => exact .inr (.inr (.inr (.inl ⟨_, _, _, h, writeWord_kind _ _ (chB _ _ (by decide)), rfl⟩)))
  case readChSlot3 z c b => exact .inr (.inr (.inl ⟨_, _, h⟩))
  case writeChSlot4 z c b d => exact .inr (.inr (.inr (.inl ⟨_, _, _, h, writeWord_kind _ _ (chB _ _ (by decide)), rfl⟩)))
  case readChSlot4 z c b => exact .inr (.inr (.inl ⟨_, _, h⟩))
  case writeChSlot5 z c b d => exact .inr (.inr (.inr (.inl ⟨_, _, _, h, writeWord_kind _ _ (chB _ _ (by decide)), rfl⟩)))
  case readChSlot5 z c b => exact .inr (.inr (.inl ⟨_, _, h⟩))
  case writeChSlot6 z c b d => exact .inr (.inr (.inr (.inl ⟨_, _, _, h, writeWord_kind _ _ (chB _ _ (by decide)), rfl⟩)))
  case readChSlot6 z c b => exact .inr (.inr (.inl ⟨_, _, h⟩))
  case writeChSlot7 z c b d => exact .inr (.inr (.inr (.inl ⟨_, _, _, h, writeWord_kind _ _ (chB _ _ (by decide)), rfl⟩)))
  case readChSlot7 z c b => exact .inr (.inr (.inl ⟨_, _, h⟩))
  case writeChSlot8 z c b d => exact .inr (.inr (.inr (.inl ⟨_, _, _, h, writeWord_kind _ _ (chB _ _ (by decide)), rfl⟩)))
  case readChSlot8 z c b => exact .inr (.inr (.inl ⟨_, _, h⟩))
  case writeChSlot9 z c b d => exact .inr (.inr (.inr (.inl ⟨_, _, _, h, writeWord_kind _ _ (chB _ _ (by decide)), rfl⟩)))
  case readChSlot9 z c b => exact .inr (.inr (.inl ⟨_, _, h⟩))
  case writeChSlot10 z c b d => exact .inr (.inr (.inr (.inl ⟨_, _, _, h, writeWord_kind _ _ (chB _ _ (by decide)), rfl⟩)))
  case readChSlot10 z c b => exact .inr (.inr (.inl ⟨_, _, h⟩))
  case writeChSlot11 z c b d => exact .inr (.inr (.inr (.inl ⟨_, _, _, h, writeWord_kind _ _ (chB _ _ (by decide)), rfl⟩)))
  case readChSlot11 z c b => exact .inr (.inr (.inl ⟨_, _, h⟩))
  case writeChSlot12 z c b d => exact .inr (.inr (.inr (.inl ⟨_, _, _, h, writeWord_kind _ _ (chB _ _ (by decide)), rfl⟩)))
  case readChSlot12 z c b => exact .inr (.inr (.inl ⟨_, _, h⟩))
  case writeChSlot13 z c b d => exact .inr (.inr (.inr (.inl ⟨_, _, _, h, writeWord_kind _ _ (chB _ _ (by decide)), rfl⟩)))
  case readChSlot13 z c b => exact .inr (.inr (.inl ⟨_, _, h⟩))
  case writeChSlot14 z c b d => exact .inr (.inr (.inr (.inl ⟨_, _, _, h, writeWord_kind _ _ (chB _ _ (by decide)), rfl⟩)))
  case readChSlot14 z c b => exact .inr (.inr (.inl ⟨_, _, h⟩))
  case writeChSlot15 z c b d => exact .inr (.inr (.inr (.inl ⟨_, _, _, h, writeWord_kind _ _ (chB _ _ (by decide)), rfl⟩)))
  case readChSlot15 z c b => exact .inr (.inr (.inl ⟨_, _, h⟩))
  case writeChSlot16 z c b d => exact .inr (.inr (.inr (.inl ⟨_, _, _, h, writeWord_kind _ _ (chB _ _ (by decide)), rfl⟩)))
  case readChSlot16 z c b => exact .inr (.inr (.inl ⟨_, _, h⟩))
  case writeChSlot17 z c b d => exact .inr (.inr (.inr (.inl ⟨_, _, _, h, writeWord_kind _ _ (chB _ _ (by decide)), rfl⟩)))
  case readChSlot17 z c b => exact .inr (.inr (.inl ⟨_, _, h⟩))
  case writeChReserved18 z c k b d => exact .inr (.inr (.inr (.inl ⟨_, _, _, h, writeWord_kind _ _ (chB _ _ k.isLt), rfl⟩)))
  case readChReserved18 z c k b => exact .inr (.inr (.inl ⟨_, _, h⟩))
  case writeChReserved20 z c k b d => exact .inr (.inr (.inr (.inl ⟨_, _, _, h, writeWord_kind _ _ (chB _ _ k.isLt), rfl⟩)))
  case readChReserved20 z c k b => exact .inr (.inr (.inl ⟨_, _, h⟩))
  case writeChReserved24 z c k b d => exact .inr (.inr (.inr (.inl ⟨_, _, _, h, writeWord_kind _ _ (chB _ _ k.isLt), rfl⟩)))
  case readChReserved24 z c k b => exact .inr (.inr (.inl ⟨_, _, h⟩))
  case writeKyonexW16 c d => exact .inr (.inr (.inr (.inl ⟨_, _, _, h, writeWord_kind _ _ (chB _ _ (by decide)), rfl⟩)))
  case writeKyonexW32 c d => exact .inr (.inr (.inr (.inl ⟨_, _, _, h, writeWord_kind _ _ (chB _ _ (by decide)), rfl⟩)))
  case writeKyonexW8 c d => exact .inr (.inr (.inr (.inl ⟨_, _, _, h, writeWord_kind _ _ (chB _ _ (by decide)), rfl⟩)))
  case writeLforeW16 c d => exact .inr (.inr (.inr (.inl ⟨_, _, _, h, writeWord_kind _ _ (chB _ _ (by decide)), rfl⟩)))
  case writeLforeW32 c d => exact .inr (.inr (.inr (.inl ⟨_, _, _, h, writeWord_kind _ _ (chB _ _ (by decide)), rfl⟩)))
  case writeLforeW8 c d => exact .inr (.inr (.inr (.inl ⟨_, _, _, h, writeWord_kind _ _ (chB _ _ (by decide)), rfl⟩)))
  case writeEfsDsp z k b d => exact .inr (.inr (.inr (.inl ⟨_, _, _, h, writeWord_kind _ _ (efB _ (by have := k.isLt; omega)), rfl⟩)))
  case readEfsDsp z k b => exact .inr (.inr (.inl ⟨_, _, h⟩))
  case writeEfsCd z k b d => exact .inr (.inr (.inr (.inl ⟨_, _, _, h, writeWord_kind _ _ (efB _ (by have := k.isLt; omega)), rfl⟩)))
  case readEfsCd z k b => exact .inr (.inr (.inl ⟨_, _, h⟩))
  case writeMvol z b d => exact .inr (.inr (.inr (.inl ⟨_, _, _, h, writeWord_kind _ _ (by have := b.isLt; omega), rfl⟩)))
  case readMvol z b => exact .inr (.inr (.inl ⟨_, _, h⟩))
  case writeMslc z b d => exact .inr (.inr (.inr (.inl ⟨_, _, _, h, writeWord_kind _ _ (by have := b.isLt; omega), rfl⟩)))
  case readMslc z b => exact .inr (.inr (.inl ⟨_, _, h⟩))
  case writeStatus z b d => exact .inr (.inr (.inr (.inl ⟨_, _, _, h, writeWord_kind _ _ (by have := b.isLt; omega), rfl⟩)))
  case readStatus z b => exact .inr (.inr (.inl ⟨_, _, h⟩))
  case writeCa z b d => exact .inr (.inr (.inr (.inl ⟨_, _, _, h, writeWord_kind _ _ (by have := b.isLt; omega), rfl⟩)))
  case readCa z b => exact .inr (.inr (.inl ⟨_, _, h⟩))
  case readStatusClearing z => exact .inr (.inr (.inl ⟨_, _, h⟩))
  case fmtPcm16 => exact .inr (.inr (.inr (.inr (.inr (.inr ⟨_, by cases h; rfl, .inl rfl⟩)))))
  case fmtPcm8 => exact .inr (.inr (.inr (.inr (.inr (.inr ⟨_, by cases h; rfl, .inr (.inl rfl)⟩)))))
  case fmtAdpcm => exact .inr (.inr (.inr (.inr (.inr (.inr ⟨_, by cases h; rfl, .inr (.inr (.inl rfl))⟩)))))
  case fmtAdpcmStream => exact .inr (.inr (.inr (.inr (.inr (.inr ⟨_, by cases h; rfl, .inr (.inr (.inl rfl))⟩)))))
  case fmtNoise => exact .inr (.inr (.inr (.inr (.inr (.inr ⟨_, by cases h; rfl, .inr (.inr (.inr rfl))⟩)))))
  case lfoSaw => exact .inr (.inr (.inr (.inr (.inr (.inl ⟨_, by cases h; rfl⟩)))))
  case lfoSquare => exact .inr (.inr (.inr (.inr (.inr (.inl ⟨_, by cases h; rfl⟩)))))
  case lfoTriangle => exact .inr (.inr (.inr (.inr (.inr (.inl ⟨_, by cases h; rfl⟩)))))
  case lfoNoise => exact .inr (.inr (.inr (.inr (.inr (.inl ⟨_, by cases h; rfl⟩)))))
  case sgcAttack => exact .inr (.inr (.inr (.inr (.inl ⟨_, by cases h; rfl⟩))))
  case sgcDecay1 => exact .inr (.inr (.inr (.inr (.inl ⟨_, by cases h; rfl⟩))))
  case sgcDecay2 => exact .inr (.inr (.inr (.inr (.inl ⟨_, by cases h; rfl⟩))))
  case sgcRelease => exact .inr (.inr (.inr (.inr (.inl ⟨_, by cases h; rfl⟩))))

/-- What a READ that completes changes: the value returned and at most one looped flag. -/
theorem hostRead_frame {z : Size} {a : Nat} {s t : State} (h : hostRead z a s = .next t) :
    t.regs = s.regs ∧ t.wave = s.wave ∧ t.cfg = s.cfg ∧ t.bench = s.bench ∧ t.inbox = s.inbox ∧ t.inp = s.inp ∧
    t.frame = s.frame ∧ t.sink = s.sink ∧ ∀ c, ∃ l, t.chan c = { s.chan c with looped := l } := by
  rcases hostRead_cases z a s with ⟨_, e⟩ | ⟨_, _, e⟩ | ⟨_, _, e⟩ <;> rw [e] at h <;> cases h
  have hc : ∀ c, ∃ l, (s.statusClear z a).chan c = { s.chan c with looped := l } := by
    intro c
    unfold State.statusClear
    split
    · rw [State.chan_setChan]
      split
      · next h => subst h; exact ⟨_, rfl⟩
      · exact ⟨_, rfl⟩
    · exact ⟨_, rfl⟩
  refine ⟨?_, ?_, ?_, ?_, ?_, ?_, ?_, ?_, hc⟩ <;> unfold State.statusClear <;> split <;> rfl

/-- No instruction changes the configuration, `bench` or the queue. -/
theorem exec_keeps_settings {i : Instr} {s t : State} (h : exec i s = .next t) :
    t.cfg = s.cfg ∧ t.bench = s.bench ∧ t.inbox = s.inbox := by
  rcases exec_next_cases i s t h with ⟨c, rfl⟩ | rfl | ⟨z, a, h⟩ | ⟨z, a, d, h, -⟩ | ⟨st, rfl⟩ | ⟨w, rfl⟩ | ⟨ch, rfl, -⟩
  · exact ⟨rfl, rfl, rfl⟩
  · simp
  · obtain ⟨-, -, hc, hb, hi, -⟩ := hostRead_frame h
    exact ⟨hc, hb, hi⟩
  · unfold hostWrite at h
    split at h
    · cases h
    · cases h
      obtain ⟨-, hc, hb, hi, -⟩ := State.sideEffects_frame { s with regs := storeBytes s.regs a d z.bytes } z a d
      exact ⟨hc, hb, hi⟩
  · unfold State.aegUnit; dsimp only; split <;> exact ⟨rfl, rfl, rfl⟩
  · exact ⟨rfl, rfl, rfl⟩
  · exact ⟨rfl, rfl, rfl⟩

end Sys2Proof.Machine
end

