-- ==== Sys2Proof/Laws/PerInstr.lean ====
section
/-! SUPPORT. Statements for all instructions, one lemma per constructor. -/

namespace Sys2Proof.Laws.EncodeFits

/-- An instruction's encoding has as many bytes as its format says, and its word has no bit above the format's width
(30_encoding.md R101, R106). -/
def Statement (i : Instr) : Prop := (encode i).length = i.format.bytes ∧ encodeWord i < 2 ^ i.format.width

theorem adpcm0 : Statement .adpcm0 :=
  ⟨length_leBytes _ _, by decide⟩

theorem adpcm1 : Statement .adpcm1 :=
  ⟨length_leBytes _ _, by decide⟩

theorem adpcm2 : Statement .adpcm2 :=
  ⟨length_leBytes _ _, by decide⟩

theorem adpcm3 : Statement .adpcm3 :=
  ⟨length_leBytes _ _, by decide⟩

theorem adpcm4 : Statement .adpcm4 :=
  ⟨length_leBytes _ _, by decide⟩

theorem adpcm5 : Statement .adpcm5 :=
  ⟨length_leBytes _ _, by decide⟩

theorem adpcm6 : Statement .adpcm6 :=
  ⟨length_leBytes _ _, by decide⟩

theorem adpcm7 : Statement .adpcm7 :=
  ⟨length_leBytes _ _, by decide⟩

theorem adpcm8 : Statement .adpcm8 :=
  ⟨length_leBytes _ _, by decide⟩

theorem adpcm9 : Statement .adpcm9 :=
  ⟨length_leBytes _ _, by decide⟩

theorem adpcmA : Statement .adpcmA :=
  ⟨length_leBytes _ _, by decide⟩

theorem adpcmB : Statement .adpcmB :=
  ⟨length_leBytes _ _, by decide⟩

theorem adpcmC : Statement .adpcmC :=
  ⟨length_leBytes _ _, by decide⟩

theorem adpcmD : Statement .adpcmD :=
  ⟨length_leBytes _ _, by decide⟩

theorem adpcmE : Statement .adpcmE :=
  ⟨length_leBytes _ _, by decide⟩

theorem adpcmF : Statement .adpcmF :=
  ⟨length_leBytes _ _, by decide⟩

theorem tick : Statement .tick :=
  ⟨length_leBytes _ _, by decide⟩

theorem read (z : Size) (a : Half) : Statement (.read z a) :=
  ⟨length_leBytes _ _, readWord_lt _ a.isLt⟩

theorem write (z : Size) (a : Half) (d : Word) : Statement (.write z a d) :=
  ⟨length_leBytes _ _, writeWord_lt _ _ a.isLt⟩

theorem reservedOp : Statement .reservedOp :=
  ⟨length_leBytes _ _, by decide⟩

theorem readBadsize : Statement .readBadsize :=
  ⟨length_leBytes _ _, by decide⟩

theorem writeBadsize : Statement .writeBadsize :=
  ⟨length_leBytes _ _, by decide⟩

theorem writeChSlot0 (z : Size) (c : Chan) (b : BitVec 2) (d : Word) : Statement (.writeChSlot0 z c b d) :=
  ⟨length_leBytes _ _, writeWord_lt _ _ (Nat.lt_trans (chOffset_lt _ _ (by decide)) (by decide))⟩

theorem readChSlot0 (z : Size) (c : Chan) (b : BitVec 2) : Statement (.readChSlot0 z c b) :=
  ⟨length_leBytes _ _, readWord_lt _ (Nat.lt_trans (chOffset_lt _ _ (by decide)) (by decide))⟩

theorem writeChSlot1 (z : Size) (c : Chan) (b : BitVec 2) (d : Word) : Statement (.writeChSlot1 z c b d) :=
  ⟨length_leBytes _ _, writeWord_lt _ _ (Nat.lt_trans (chOffset_lt _ _ (by decide)) (by decide))⟩

theorem readChSlot1 (z : Size) (c : Chan) (b : BitVec 2) : Statement (.readChSlot1 z c b) :=
  ⟨length_leBytes _ _, readWord_lt _ (Nat.lt_trans (chOffset_lt _ _ (by decide)) (by decide))⟩

theorem writeChSlot2 (z : Size) (c : Chan) (b : BitVec 2) (d : Word) : Statement (.writeChSlot2 z c b d) :=
  ⟨length_leBytes _ _, writeWord_lt _ _ (Nat.lt_trans (chOffset_lt _ _ (by decide)) (by decide))⟩

theorem readChSlot2 (z : Size) (c : Chan) (b : BitVec 2) : Statement (.readChSlot2 z c b) :=
  ⟨length_leBytes _ _, readWord_lt _ (Nat.lt_trans (chOffset_lt _ _ (by decide)) (by decide))⟩

theorem writeChSlot3 (z : Size) (c : Chan) (b : BitVec 2) (d : Word) : Statement (.writeChSlot3 z c b d) :=
  ⟨length_leBytes _ _, writeWord_lt _ _ (Nat.lt_trans (chOffset_lt _ _ (by decide)) (by decide))⟩

theorem readChSlot3 (z : Size) (c : Chan) (b : BitVec 2) : Statement (.readChSlot3 z c b) :=
  ⟨length_leBytes _ _, readWord_lt _ (Nat.lt_trans (chOffset_lt _ _ (by decide)) (by decide))⟩

theorem writeChSlot4 (z : Size) (c : Chan) (b : BitVec 2) (d : Word) : Statement (.writeChSlot4 z c b d) :=
  ⟨length_leBytes _ _, writeWord_lt _ _ (Nat.lt_trans (chOffset_lt _ _ (by decide)) (by decide))⟩

theorem readChSlot4 (z : Size) (c : Chan) (b : BitVec 2) : Statement (.readChSlot4 z c b) :=
  ⟨length_leBytes _ _, readWord_lt _ (Nat.lt_trans (chOffset_lt _ _ (by decide)) (by decide))⟩

theorem writeChSlot5 (z : Size) (c : Chan) (b : BitVec 2) (d : Word) : Statement (.writeChSlot5 z c b d) :=
  ⟨length_leBytes _ _, writeWord_lt _ _ (Nat.lt_trans (chOffset_lt _ _ (by decide)) (by decide))⟩

theorem readChSlot5 (z : Size) (c : Chan) (b : BitVec 2) : Statement (.readChSlot5 z c b) :=
  ⟨length_leBytes _ _, readWord_lt _ (Nat.lt_trans (chOffset_lt _ _ (by decide)) (by decide))⟩

theorem writeChSlot6 (z : Size) (c : Chan) (b : BitVec 2) (d : Word) : Statement (.writeChSlot6 z c b d) :=
  ⟨length_leBytes _ _, writeWord_lt _ _ (Nat.lt_trans (chOffset_lt _ _ (by decide)) (by decide))⟩

theorem readChSlot6 (z : Size) (c : Chan) (b : BitVec 2) : Statement (.readChSlot6 z c b) :=
  ⟨length_leBytes _ _, readWord_lt _ (Nat.lt_trans (chOffset_lt _ _ (by decide)) (by decide))⟩

theorem writeChSlot7 (z : Size) (c : Chan) (b : BitVec 2) (d : Word) : Statement (.writeChSlot7 z c b d) :=
  ⟨length_leBytes _ _, writeWord_lt _ _ (Nat.lt_trans (chOffset_lt _ _ (by decide)) (by decide))⟩

theorem readChSlot7 (z : Size) (c : Chan) (b : BitVec 2) : Statement (.readChSlot7 z c b) :=
  ⟨length_leBytes _ _, readWord_lt _ (Nat.lt_trans (chOffset_lt _ _ (by decide)) (by decide))⟩

theorem writeChSlot8 (z : Size) (c : Chan) (b : BitVec 2) (d : Word) : Statement (.writeChSlot8 z c b d) :=
  ⟨length_leBytes _ _, writeWord_lt _ _ (Nat.lt_trans (chOffset_lt _ _ (by decide)) (by decide))⟩

theorem readChSlot8 (z : Size) (c : Chan) (b : BitVec 2) : Statement (.readChSlot8 z c b) :=
  ⟨length_leBytes _ _, readWord_lt _ (Nat.lt_trans (chOffset_lt _ _ (by decide)) (by decide))⟩

theorem writeChSlot9 (z : Size) (c : Chan) (b : BitVec 2) (d : Word) : Statement (.writeChSlot9 z c b d) :=
  ⟨length_leBytes _ _, writeWord_lt _ _ (Nat.lt_trans (chOffset_lt _ _ (by decide)) (by decide))⟩

theorem readChSlot9 (z : Size) (c : Chan) (b : BitVec 2) : Statement (.readChSlot9 z c b) :=
  ⟨length_leBytes _ _, readWord_lt _ (Nat.lt_trans (chOffset_lt _ _ (by decide)) (by decide))⟩

theorem writeChSlot10 (z : Size) (c : Chan) (b : BitVec 2) (d : Word) : Statement (.writeChSlot10 z c b d) :=
  ⟨length_leBytes _ _, writeWord_lt _ _ (Nat.lt_trans (chOffset_lt _ _ (by decide)) (by decide))⟩

theorem readChSlot10 (z : Size) (c : Chan) (b : BitVec 2) : Statement (.readChSlot10 z c b) :=
  ⟨length_leBytes _ _, readWord_lt _ (Nat.lt_trans (chOffset_lt _ _ (by decide)) (by decide))⟩

theorem writeChSlot11 (z : Size) (c : Chan) (b : BitVec 2) (d : Word) : Statement (.writeChSlot11 z c b d) :=
  ⟨length_leBytes _ _, writeWord_lt _ _ (Nat.lt_trans (chOffset_lt _ _ (by decide)) (by decide))⟩

theorem readChSlot11 (z : Size) (c : Chan) (b : BitVec 2) : Statement (.readChSlot11 z c b) :=
  ⟨length_leBytes _ _, readWord_lt _ (Nat.lt_trans (chOffset_lt _ _ (by decide)) (by decide))⟩

theorem writeChSlot12 (z : Size) (c : Chan) (b : BitVec 2) (d : Word) : Statement (.writeChSlot12 z c b d) :=
  ⟨length_leBytes _ _, writeWord_lt _ _ (Nat.lt_trans (chOffset_lt _ _ (by decide)) (by decide))⟩

theorem readChSlot12 (z : Size) (c : Chan) (b : BitVec 2) : Statement (.readChSlot12 z c b) :=
  ⟨length_leBytes _ _, readWord_lt _ (Nat.lt_trans (chOffset_lt _ _ (by decide)) (by decide))⟩

theorem writeChSlot13 (z : Size) (c : Chan) (b : BitVec 2) (d : Word) : Statement (.writeChSlot13 z c b d) :=
  ⟨length_leBytes _ _, writeWord_lt _ _ (Nat.lt_trans (chOffset_lt _ _ (by decide)) (by decide))⟩

theorem readChSlot13 (z : Size) (c : Chan) (b : BitVec 2) : Statement (.readChSlot13 z c b) :=
  ⟨length_leBytes _ _, readWord_lt _ (Nat.lt_trans (chOffset_lt _ _ (by decide)) (by decide))⟩

theorem writeChSlot14 (z : Size) (c : Chan) (b : BitVec 2) (d : Word) : Statement (.writeChSlot14 z c b d) :=
  ⟨length_leBytes _ _, writeWord_lt _ _ (Nat.lt_trans (chOffset_lt _ _ (by decide)) (by decide))⟩

theorem readChSlot14 (z : Size) (c : Chan) (b : BitVec 2) : Statement (.readChSlot14 z c b) :=
  ⟨length_leBytes _ _, readWord_lt _ (Nat.lt_trans (chOffset_lt _ _ (by decide)) (by decide))⟩

theorem writeChSlot15 (z : Size) (c : Chan) (b : BitVec 2) (d : Word) : Statement (.writeChSlot15 z c b d) :=
  ⟨length_leBytes _ _, writeWord_lt _ _ (Nat.lt_trans (chOffset_lt _ _ (by decide)) (by decide))⟩

theorem readChSlot15 (z : Size) (c : Chan) (b : BitVec 2) : Statement (.readChSlot15 z c b) :=
  ⟨length_leBytes _ _, readWord_lt _ (Nat.lt_trans (chOffset_lt _ _ (by decide)) (by decide))⟩

theorem writeChSlot16 (z : Size) (c : Chan) (b : BitVec 2) (d : Word) : Statement (.writeChSlot16 z c b d) :=
  ⟨length_leBytes _ _, writeWord_lt _ _ (Nat.lt_trans (chOffset_lt _ _ (by decide)) (by decide))⟩

theorem readChSlot16 (z : Size) (c : Chan) (b : BitVec 2) : Statement (.readChSlot16 z c b) :=
  ⟨length_leBytes _ _, readWord_lt _ (Nat.lt_trans (chOffset_lt _ _ (by decide)) (by decide))⟩

theorem writeChSlot17 (z : Size) (c : Chan) (b : BitVec 2) (d : Word) : Statement (.writeChSlot17 z c b d) :=
  ⟨length_leBytes _ _, writeWord_lt _ _ (Nat.lt_trans (chOffset_lt _ _ (by decide)) (by decide))⟩

theorem readChSlot17 (z : Size) (c : Chan) (b : BitVec 2) : Statement (.readChSlot17 z c b) :=
  ⟨length_leBytes _ _, readWord_lt _ (Nat.lt_trans (chOffset_lt _ _ (by decide)) (by decide))⟩

theorem writeChReserved18 (z : Size) (c : Chan) (k : BitVec 5) (b : BitVec 2) (d : Word) : Statement (.writeChReserved18 z c k b d) :=
  ⟨length_leBytes _ _, writeWord_lt _ _ (Nat.lt_trans (chOffset_lt _ _ k.isLt) (by decide))⟩

theorem readChReserved18 (z : Size) (c : Chan) (k : BitVec 5) (b : BitVec 2) : Statement (.readChReserved18 z c k b) :=
  ⟨length_leBytes _ _, readWord_lt _ (Nat.lt_trans (chOffset_lt _ _ k.isLt) (by decide))⟩

theorem writeChReserved20 (z : Size) (c : Chan) (k : BitVec 5) (b : BitVec 2) (d : Word) : Statement (.writeChReserved20 z c k b d) :=
  ⟨length_leBytes _ _, writeWord_lt _ _ (Nat.lt_trans (chOffset_lt _ _ k.isLt) (by decide))⟩

theorem readChReserved20 (z : Size) (c : Chan) (k : BitVec 5) (b : BitVec 2) : Statement (.readChReserved20 z c k b) :=
  ⟨length_leBytes _ _, readWord_lt _ (Nat.lt_trans (chOffset_lt _ _ k.isLt) (by decide))⟩

theorem writeChReserved24 (z : Size) (c : Chan) (k : BitVec 5) (b : BitVec 2) (d : Word) : Statement (.writeChReserved24 z c k b d) :=
  ⟨length_leBytes _ _, writeWord_lt _ _ (Nat.lt_trans (chOffset_lt _ _ k.isLt) (by decide))⟩

theorem readChReserved24 (z : Size) (c : Chan) (k : BitVec 5) (b : BitVec 2) : Statement (.readChReserved24 z c k b) :=
  ⟨length_leBytes _ _, readWord_lt _ (Nat.lt_trans (chOffset_lt _ _ k.isLt) (by decide))⟩

theorem writeKyonexW16 (c : Chan) (d : Word) : Statement (.writeKyonexW16 c d) :=
  ⟨length_leBytes _ _, writeWord_lt _ _ (Nat.lt_trans (chOffset_lt _ _ (by decide)) (by decide))⟩

theorem writeKyonexW32 (c : Chan) (d : Word) : Statement (.writeKyonexW32 c d) :=
  ⟨length_leBytes _ _, writeWord_lt _ _ (Nat.lt_trans (chOffset_lt _ _ (by decide)) (by decide))⟩

theorem writeKyonexW8 (c : Chan) (d : Word) : Statement (.writeKyonexW8 c d) :=
  ⟨length_leBytes _ _, writeWord_lt _ _ (Nat.lt_trans (chOffset_lt _ _ (by decide)) (by decide))⟩

theorem writeLforeW16 (c : Chan) (d : Word) : Statement (.writeLforeW16 c d) :=
  ⟨length_leBytes _ _, writeWord_lt _ _ (Nat.lt_trans (chOffset_lt _ _ (by decide)) (by decide))⟩

theorem writeLforeW32 (c : Chan) (d : Word) : Statement (.writeLforeW32 c d) :=
  ⟨length_leBytes _ _, writeWord_lt _ _ (Nat.lt_trans (chOffset_lt _ _ (by decide)) (by decide))⟩

theorem writeLforeW8 (c : Chan) (d : Word) : Statement (.writeLforeW8 c d) :=
  ⟨length_leBytes _ _, writeWord_lt _ _ (Nat.lt_trans (chOffset_lt _ _ (by decide)) (by decide))⟩

theorem writeEfsDsp (z : Size) (k : BitVec 4) (b : BitVec 2) (d : Word) : Statement (.writeEfsDsp z k b d) :=
  ⟨length_leBytes _ _, writeWord_lt _ _ (Nat.lt_trans (efsOffset_lt _ (by have := k.isLt; omega)) (by decide))⟩

theorem readEfsDsp (z : Size) (k : BitVec 4) (b : BitVec 2) : Statement (.readEfsDsp z k b) :=
  ⟨length_leBytes _ _, readWord_lt _ (Nat.lt_trans (efsOffset_lt _ (by have := k.isLt; omega)) (by decide))⟩

theorem writeEfsCd (z : Size) (k : BitVec 1) (b : BitVec 2) (d : Word) : Statement (.writeEfsCd z k b d) :=
  ⟨length_leBytes _ _, writeWord_lt _ _ (Nat.lt_trans (efsOffset_lt _ (by have := k.isLt; omega)) (by decide))⟩

theorem readEfsCd (z : Size) (k : BitVec 1) (b : BitVec 2) : Statement (.readEfsCd z k b) :=
  ⟨length_leBytes _ _, readWord_lt _ (Nat.lt_trans (efsOffset_lt _ (by have := k.isLt; omega)) (by decide))⟩

theorem writeMvol (z : Size) (b : BitVec 2) (d : Word) : Statement (.writeMvol z b d) :=
  ⟨length_leBytes _ _, writeWord_lt _ _ (by have := b.isLt; omega)⟩

theorem readMvol (z : Size) (b : BitVec 2) : Statement (.readMvol z b) :=
  ⟨length_leBytes _ _, readWord_lt _ (by have := b.isLt; omega)⟩

theorem writeMslc (z : Size) (b : BitVec 2) (d : Word) : Statement (.writeMslc z b d) :=
  ⟨length_leBytes _ _, writeWord_lt _ _ (by have := b.isLt; omega)⟩

theorem readMslc (z : Size) (b : BitVec 2) : Statement (.readMslc z b) :=
  ⟨length_leBytes _ _, readWord_lt _ (by have := b.isLt; omega)⟩

theorem writeStatus (z : Size) (b : BitVec 2) (d : Word) : Statement (.writeStatus z b d) :=
  ⟨length_leBytes _ _, writeWord_lt _ _ (by have := b.isLt; omega)⟩

theorem readStatus (z : Size) (b : BitVec 2) : Statement (.readStatus z b) :=
  ⟨length_leBytes _ _, readWord_lt _ (by have := b.isLt; omega)⟩

theorem writeCa (z : Size) (b : BitVec 2) (d : Word) : Statement (.writeCa z b d) :=
  ⟨length_leBytes _ _, writeWord_lt _ _ (by have := b.isLt; omega)⟩

theorem readCa (z : Size) (b : BitVec 2) : Statement (.readCa z b) :=
  ⟨length_leBytes _ _, readWord_lt _ (by have := b.isLt; omega)⟩

theorem readStatusClearing (z : Size) : Statement (.readStatusClearing z) :=
  ⟨length_leBytes _ _, readWord_lt _ (by decide)⟩

theorem fmtPcm16 : Statement .fmtPcm16 :=
  ⟨length_leBytes _ _, by decide⟩

theorem fmtPcm8 : Statement .fmtPcm8 :=
  ⟨length_leBytes _ _, by decide⟩

theorem fmtAdpcm : Statement .fmtAdpcm :=
  ⟨length_leBytes _ _, by decide⟩

theorem fmtAdpcmStream : Statement .fmtAdpcmStream :=
  ⟨length_leBytes _ _, by decide⟩

theorem fmtNoise : Statement .fmtNoise :=
  ⟨length_leBytes _ _, by decide⟩

theorem lfoSaw : Statement .lfoSaw :=
  ⟨length_leBytes _ _, by decide⟩

theorem lfoSquare : Statement .lfoSquare :=
  ⟨length_leBytes _ _, by decide⟩

theorem lfoTriangle : Statement .lfoTriangle :=
  ⟨length_leBytes _ _, by decide⟩

theorem lfoNoise : Statement .lfoNoise :=
  ⟨length_leBytes _ _, by decide⟩

theorem sgcAttack : Statement .sgcAttack :=
  ⟨length_leBytes _ _, by decide⟩

theorem sgcDecay1 : Statement .sgcDecay1 :=
  ⟨length_leBytes _ _, by decide⟩

theorem sgcDecay2 : Statement .sgcDecay2 :=
  ⟨length_leBytes _ _, by decide⟩

theorem sgcRelease : Statement .sgcRelease :=
  ⟨length_leBytes _ _, by decide⟩

end Sys2Proof.Laws.EncodeFits
end

