-- ==== Sys2Proof/Laws/Step.lean ====
section
/-! SUPPORT. What a step can do, said once. -/

namespace Sys2Proof.Machine

@[simp] theorem State.admits_hostop (s : State) : s.admits .hostop52 = true := by simp [State.admits]

theorem State.admits_iff (s : State) (f : WordFormat) : s.admits f = true ↔ s.bench = true ∨ f = .hostop52 := by
  simp [State.admits]

/-- A next state is the same one (nothing issued), that of a host write inside wave memory, or that of the instruction an admitted
request decodes to. -/
theorem step_next_cases {s t : State} (h : step s = .next t) :
    s.cfg.hackMix = false ∧
    ((s.inbox = [] ∧ t = s) ∨
     (∃ a v rest, s.inbox = .poke a v :: rest ∧ a < aramSize ∧ t = { s with inbox := rest, wave := s.wave.write a v }) ∨
     ∃ f bs inp rest i, s.inbox = .op f bs inp :: rest ∧ s.admits f = true ∧ decode f bs = .ok i ∧
       exec i (s.latch inp rest) = .next t) := by
  cases hc : s.cfg.hackMix
  · refine ⟨rfl, ?_⟩
    simp only [step, State.configRefusal, hc, Bool.false_eq_true, if_false] at h
    split at h
    · next e => cases h; exact .inl ⟨e, rfl⟩
    · next a v rest e =>
      unfold State.pokeWave at h
      split at h
      · next ha => cases h; exact .inr (.inl ⟨a, v, rest, e, ha, rfl⟩)
      · cases h
    · next f bs inp rest e =>
      split at h
      · next ha =>
        split at h
        · cases h
        · next i hd => exact .inr (.inr ⟨f, bs, inp, rest, i, e, ha, hd, h⟩)
      · cases h
  · simp [step, State.configRefusal, hc, refuse] at h

end Sys2Proof.Machine
end

