-- ==== Sys2Proof/Tests/Slice0.lean ====
section
/-! SUPPORT. The package's own tests: the WellFormed smoke tests, decoding against words written out from the encoding rules,
single steps against 95_test_vectors.md, and for each statement with hypotheses a state that meets them. -/

open Sys2Proof Sys2Proof.Machine

namespace Sys2Proof.Tests

/-! WellFormed refuses an ill-formed term for each check. -/

theorem test_ill_formed_generic_read : ¬(Instr.read .b1 0x2047).WellFormed := by decide

theorem test_ill_formed_generic_write : ¬(Instr.write .b2 0x280C 1).WellFormed := by decide

theorem test_ill_formed_slot0_with_kyonex : ¬(Instr.writeChSlot0 .b2 0 0 0x8000).WellFormed := by decide

theorem test_ill_formed_slot7_with_lfore : ¬(Instr.writeChSlot7 .b1 0 1 0x80).WellFormed := by decide

theorem test_ill_formed_reserved_18 : ¬(Instr.writeChReserved18 .b1 0 20 0 0).WellFormed := by decide

theorem test_ill_formed_reserved_18_read : ¬(Instr.readChReserved18 .b1 0 17 0).WellFormed := by decide

theorem test_ill_formed_reserved_20 : ¬(Instr.writeChReserved20 .b1 0 19 0 0).WellFormed := by decide

theorem test_ill_formed_reserved_20_read : ¬(Instr.readChReserved20 .b1 0 24 0).WellFormed := by decide

theorem test_ill_formed_reserved_24 : ¬(Instr.writeChReserved24 .b1 0 23 0 0).WellFormed := by decide

theorem test_ill_formed_reserved_24_read : ¬(Instr.readChReserved24 .b1 0 0 0).WellFormed := by decide

theorem test_ill_formed_kyonex_w8_without_bit : ¬(Instr.writeKyonexW8 0 0x8000).WellFormed := by decide

theorem test_ill_formed_kyonex_w16_without_bit : ¬(Instr.writeKyonexW16 0 0x7FFF).WellFormed := by decide

theorem test_ill_formed_kyonex_w32_without_bit : ¬(Instr.writeKyonexW32 0 0x80).WellFormed := by decide

theorem test_ill_formed_lfore_w8_without_bit : ¬(Instr.writeLforeW8 0 0x7F).WellFormed := by decide

theorem test_ill_formed_lfore_w16_without_bit : ¬(Instr.writeLforeW16 0 0x7FFF).WellFormed := by decide

theorem test_ill_formed_lfore_w32_without_bit : ¬(Instr.writeLforeW32 0 0xFFFF7FFF).WellFormed := by decide

theorem test_ill_formed_status_read_that_clears : ¬(Instr.readStatus .b2 0).WellFormed := by decide

theorem test_ill_formed_clearing_read_of_one_byte : ¬(Instr.readStatusClearing .b1).WellFormed := by decide

/-! Decoding. The bytes are a word's, least significant first. -/

/-- The sixteen codes of R101. -/
theorem test_decode_adpcm_codes : ∀ p ∈ ([([0x00], .adpcm0),
    ([0x01], .adpcm1),
    ([0x02], .adpcm2),
    ([0x03], .adpcm3),
    ([0x04], .adpcm4),
    ([0x05], .adpcm5),
    ([0x06], .adpcm6),
    ([0x07], .adpcm7),
    ([0x08], .adpcm8),
    ([0x09], .adpcm9),
    ([0x0A], .adpcmA),
    ([0x0B], .adpcmB),
    ([0x0C], .adpcmC),
    ([0x0D], .adpcmD),
    ([0x0E], .adpcmE),
    ([0x0F], .adpcmF)] : List (List Byte × Instr)), decode .adpcm4 p.1 = .ok p.2 := by decide

/-- The kind and size codes of R106; 0x2048 and 0x2804 lie in no register. -/
theorem test_decode_host_operations : ∀ p ∈ ([([0x00, 0x00, 0x00, 0x00, 0x00, 0x00, 0x00], .tick),
    ([0xFF, 0xFF, 0xFF, 0xFF, 0xFF, 0xFF, 0x03], .tick),
    ([0xFF, 0xFF, 0xFF, 0xFF, 0x48, 0x20, 0x05], .read .b2 0x2048),
    ([0x78, 0x56, 0x34, 0x12, 0x04, 0x28, 0x0A], .write .b4 0x2804 0x12345678),
    ([0x00, 0x00, 0x00, 0x00, 0x00, 0x00, 0x0C], .reservedOp),
    ([0x01, 0x00, 0x00, 0x00, 0xFF, 0xFF, 0x0F], .reservedOp),
    ([0x00, 0x00, 0x00, 0x00, 0x10, 0x00, 0x07], .readBadsize),
    ([0x07, 0x00, 0x00, 0x00, 0x10, 0x00, 0x0B], .writeBadsize)] : List (List Byte × Instr)), decode .hostop52 p.1 = .ok p.2 := by decide

/-- A READ of each slot of a channel: offset 128 c + 4 k + b (R80, R106). -/
theorem test_decode_slot_reads : ∀ p ∈ ([([0x00, 0x00, 0x00, 0x00, 0x80, 0x00, 0x04], .readChSlot0 .b1 1 0),
    ([0x00, 0x00, 0x00, 0x00, 0x05, 0x04, 0x05], .readChSlot1 .b2 8 1),
    ([0x00, 0x00, 0x00, 0x00, 0x8A, 0x07, 0x06], .readChSlot2 .b4 15 2),
    ([0x00, 0x00, 0x00, 0x00, 0x0F, 0x0B, 0x04], .readChSlot3 .b1 22 3),
    ([0x00, 0x00, 0x00, 0x00, 0x90, 0x0E, 0x05], .readChSlot4 .b2 29 0),
    ([0x00, 0x00, 0x00, 0x00, 0x15, 0x12, 0x06], .readChSlot5 .b4 36 1),
    ([0x00, 0x00, 0x00, 0x00, 0x9A, 0x15, 0x04], .readChSlot6 .b1 43 2),
    ([0x00, 0x00, 0x00, 0x00, 0x1F, 0x19, 0x05], .readChSlot7 .b2 50 3),
    ([0x00, 0x00, 0x00, 0x00, 0xA0, 0x1C, 0x06], .readChSlot8 .b4 57 0),
    ([0x00, 0x00, 0x00, 0x00, 0x25, 0x00, 0x04], .readChSlot9 .b1 0 1),
    ([0x00, 0x00, 0x00, 0x00, 0xAA, 0x03, 0x05], .readChSlot10 .b2 7 2),
    ([0x00, 0x00, 0x00, 0x00, 0x2F, 0x07, 0x06], .readChSlot11 .b4 14 3),
    ([0x00, 0x00, 0x00, 0x00, 0xB0, 0x0A, 0x04], .readChSlot12 .b1 21 0),
    ([0x00, 0x00, 0x00, 0x00, 0x35, 0x0E, 0x05], .readChSlot13 .b2 28 1),
    ([0x00, 0x00, 0x00, 0x00, 0xBA, 0x11, 0x06], .readChSlot14 .b4 35 2),
    ([0x00, 0x00, 0x00, 0x00, 0x3F, 0x15, 0x04], .readChSlot15 .b1 42 3),
    ([0x00, 0x00, 0x00, 0x00, 0xC0, 0x18, 0x05], .readChSlot16 .b2 49 0),
    ([0x00, 0x00, 0x00, 0x00, 0x45, 0x1C, 0x06], .readChSlot17 .b4 56 1)] : List (List Byte × Instr)), decode .hostop52 p.1 = .ok p.2 := by decide

/-- A WRITE of each slot of a channel (R80, R106). -/
theorem test_decode_slot_writes : ∀ p ∈ ([([0x00, 0x03, 0x02, 0x01, 0x80, 0x00, 0x08], .writeChSlot0 .b1 1 0 0x01020300),
    ([0x01, 0x03, 0x02, 0x01, 0x05, 0x04, 0x09], .writeChSlot1 .b2 8 1 0x01020301),
    ([0x02, 0x03, 0x02, 0x01, 0x8A, 0x07, 0x0A], .writeChSlot2 .b4 15 2 0x01020302),
    ([0x03, 0x03, 0x02, 0x01, 0x0F, 0x0B, 0x08], .writeChSlot3 .b1 22 3 0x01020303),
    ([0x04, 0x03, 0x02, 0x01, 0x90, 0x0E, 0x09], .writeChSlot4 .b2 29 0 0x01020304),
    ([0x05, 0x03, 0x02, 0x01, 0x15, 0x12, 0x0A], .writeChSlot5 .b4 36 1 0x01020305),
    ([0x06, 0x03, 0x02, 0x01, 0x9A, 0x15, 0x08], .writeChSlot6 .b1 43 2 0x01020306),
    ([0x07, 0x03, 0x02, 0x01, 0x1F, 0x19, 0x09], .writeChSlot7 .b2 50 3 0x01020307),
    ([0x08, 0x03, 0x02, 0x01, 0xA0, 0x1C, 0x0A], .writeChSlot8 .b4 57 0 0x01020308),
    ([0x09, 0x03, 0x02, 0x01, 0x25, 0x00, 0x08], .writeChSlot9 .b1 0 1 0x01020309),
    ([0x0A, 0x03, 0x02, 0x01, 0xAA, 0x03, 0x09], .writeChSlot10 .b2 7 2 0x0102030A),
    ([0x0B, 0x03, 0x02, 0x01, 0x2F, 0x07, 0x0A], .writeChSlot11 .b4 14 3 0x0102030B),
    ([0x0C, 0x03, 0x02, 0x01, 0xB0, 0x0A, 0x08], .writeChSlot12 .b1 21 0 0x0102030C),
    ([0x0D, 0x03, 0x02, 0x01, 0x35, 0x0E, 0x09], .writeChSlot13 .b2 28 1 0x0102030D),
    ([0x0E, 0x03, 0x02, 0x01, 0xBA, 0x11, 0x0A], .writeChSlot14 .b4 35 2 0x0102030E),
    ([0x0F, 0x03, 0x02, 0x01, 0x3F, 0x15, 0x08], .writeChSlot15 .b1 42 3 0x0102030F),
    ([0x10, 0x03, 0x02, 0x01, 0xC0, 0x18, 0x09], .writeChSlot16 .b2 49 0 0x01020310),
    ([0x11, 0x03, 0x02, 0x01, 0x45, 0x1C, 0x0A], .writeChSlot17 .b4 56 1 0x01020311)] : List (List Byte × Instr)), decode .hostop52 p.1 = .ok p.2 := by decide

/-- The reserved slots at the ends of their ranges (R107). -/
theorem test_decode_reserved_slots : ∀ p ∈ ([([0x00, 0x00, 0x00, 0x00, 0xC9, 0x1F, 0x04], .readChReserved18 .b1 63 18 1),
    ([0xCD, 0xAB, 0x00, 0x00, 0x48, 0x01, 0x09], .writeChReserved18 .b2 2 18 0 0xABCD),
    ([0x00, 0x00, 0x00, 0x00, 0xCD, 0x1F, 0x04], .readChReserved18 .b1 63 19 1),
    ([0xCD, 0xAB, 0x00, 0x00, 0x4C, 0x01, 0x09], .writeChReserved18 .b2 2 19 0 0xABCD),
    ([0x00, 0x00, 0x00, 0x00, 0xD1, 0x1F, 0x04], .readChReserved20 .b1 63 20 1),
    ([0xCD, 0xAB, 0x00, 0x00, 0x50, 0x01, 0x09], .writeChReserved20 .b2 2 20 0 0xABCD),
    ([0x00, 0x00, 0x00, 0x00, 0xDD, 0x1F, 0x04], .readChReserved20 .b1 63 23 1),
    ([0xCD, 0xAB, 0x00, 0x00, 0x5C, 0x01, 0x09], .writeChReserved20 .b2 2 23 0 0xABCD),
    ([0x00, 0x00, 0x00, 0x00, 0xE1, 0x1F, 0x04], .readChReserved24 .b1 63 24 1),
    ([0xCD, 0xAB, 0x00, 0x00, 0x60, 0x01, 0x09], .writeChReserved24 .b2 2 24 0 0xABCD),
    ([0x00, 0x00, 0x00, 0x00, 0xFD, 0x1F, 0x04], .readChReserved24 .b1 63 31 1),
    ([0xCD, 0xAB, 0x00, 0x00, 0x7C, 0x01, 0x09], .writeChReserved24 .b2 2 31 0 0xABCD)] : List (List Byte × Instr)), decode .hostop52 p.1 = .ok p.2 := by decide

/-- WRITEs that store 1 into bit 15 of slot 0 and of slot 7, and three that do not (R294, R230). -/
theorem test_decode_command_bits : ∀ p ∈ ([([0x81, 0x00, 0x00, 0x00, 0x81, 0x02, 0x08], .writeKyonexW8 5 0x81),
    ([0x81, 0x00, 0x00, 0x00, 0x9D, 0x02, 0x08], .writeLforeW8 5 0x81),
    ([0x01, 0x80, 0x00, 0x00, 0x80, 0x02, 0x09], .writeKyonexW16 5 0x8001),
    ([0x01, 0x80, 0x00, 0x00, 0x9C, 0x02, 0x09], .writeLforeW16 5 0x8001),
    ([0x01, 0x80, 0x00, 0x00, 0x80, 0x02, 0x0A], .writeKyonexW32 5 0x8001),
    ([0x01, 0x80, 0x00, 0x00, 0x9C, 0x02, 0x0A], .writeLforeW32 5 0x8001),
    ([0x80, 0x00, 0x00, 0x00, 0x80, 0x02, 0x08], .writeChSlot0 .b1 5 0 0x80),
    ([0xFF, 0x7F, 0x00, 0x00, 0x9C, 0x02, 0x09], .writeChSlot7 .b2 5 0 0x7FFF),
    ([0x00, 0x80, 0x00, 0x00, 0x82, 0x02, 0x09], .writeChSlot0 .b2 5 2 0x8000)] : List (List Byte × Instr)), decode .hostop52 p.1 = .ok p.2 := by decide

/-- The common registers of R99. -/
theorem test_decode_common_registers : ∀ p ∈ ([([0x00, 0x00, 0x00, 0x00, 0x00, 0x20, 0x04], .readEfsDsp .b1 0 0),
    ([0x0F, 0x0F, 0x00, 0x00, 0x3C, 0x20, 0x09], .writeEfsDsp .b2 15 0 0xF0F),
    ([0x00, 0x00, 0x00, 0x00, 0x40, 0x20, 0x05], .readEfsCd .b2 0 0),
    ([0x1F, 0x0F, 0x00, 0x00, 0x44, 0x20, 0x09], .writeEfsCd .b2 1 0 0xF1F),
    ([0x00, 0x00, 0x00, 0x00, 0x47, 0x20, 0x04], .readEfsCd .b1 1 3),
    ([0x00, 0x00, 0x00, 0x00, 0x03, 0x28, 0x04], .readMvol .b1 3),
    ([0x01, 0x80, 0x00, 0x00, 0x02, 0x28, 0x09], .writeMvol .b2 2 0x8001),
    ([0x00, 0x00, 0x00, 0x00, 0x0F, 0x28, 0x04], .readMslc .b1 3),
    ([0x01, 0x80, 0x00, 0x00, 0x0E, 0x28, 0x09], .writeMslc .b2 2 0x8001),
    ([0x00, 0x00, 0x00, 0x00, 0x17, 0x28, 0x04], .readCa .b1 3),
    ([0x01, 0x80, 0x00, 0x00, 0x16, 0x28, 0x09], .writeCa .b2 2 0x8001),
    ([0x05, 0x00, 0x00, 0x00, 0x10, 0x28, 0x0A], .writeStatus .b4 0 5),
    ([0x00, 0x00, 0x00, 0x00, 0x10, 0x28, 0x04], .readStatus .b1 0),
    ([0x00, 0x00, 0x00, 0x00, 0x11, 0x28, 0x04], .readStatus .b1 1),
    ([0x00, 0x00, 0x00, 0x00, 0x12, 0x28, 0x05], .readStatus .b2 2),
    ([0x00, 0x00, 0x00, 0x00, 0x10, 0x28, 0x05], .readStatusClearing .b2),
    ([0x00, 0x00, 0x00, 0x00, 0x10, 0x28, 0x06], .readStatusClearing .b4)] : List (List Byte × Instr)), decode .hostop52 p.1 = .ok p.2 := by decide

/-- SSCTL and PCMS of a slot 0 value (R81, R103). -/
theorem test_decode_format_codes : ∀ p ∈ ([([0x7F, 0xC2], .fmtPcm16),
    ([0x80, 0x00], .fmtPcm8),
    ([0x00, 0x01], .fmtAdpcm),
    ([0x80, 0x01], .fmtAdpcmStream),
    ([0x80, 0x05], .fmtNoise),
    ([0x00, 0x04], .fmtNoise)] : List (List Byte × Instr)), decode .slot0Reg16 p.1 = .ok p.2 := by decide

/-- ALFOWS of a slot 7 value (R88, R104). -/
theorem test_decode_wave_codes : ∀ p ∈ ([([0xE7, 0xFF], .lfoSaw),
    ([0x08, 0x00], .lfoSquare),
    ([0x10, 0x03], .lfoTriangle),
    ([0x18, 0x00], .lfoNoise)] : List (List Byte × Instr)), decode .slot7Reg16 p.1 = .ok p.2 := by decide

/-- SGC of a status value (R99, R105). -/
theorem test_decode_state_codes : ∀ p ∈ ([([0xFF, 0x9F], .sgcAttack),
    ([0x00, 0x20], .sgcDecay1),
    ([0xFF, 0xC3], .sgcDecay2),
    ([0xFF, 0x63], .sgcRelease)] : List (List Byte × Instr)), decode .statusReg16 p.1 = .ok p.2 := by decide

/-- Bytes that are no word of their format: six and eight bytes, a bit above bit 51, a bit above bit 3. -/
theorem test_decode_refuses_malformed_bytes :
    decode .hostop52 [0, 0, 0, 0, 0, 0] = .error .length ∧ decode .hostop52 [0, 0, 0, 0, 0, 0, 0, 0] = .error .length ∧
    decode .hostop52 [0, 0, 0, 0, 0, 0, 0x10] = .error .strayBits ∧ decode .adpcm4 [0x10] = .error .strayBits := by decide

/-- The opcode table's own match words of rows in four formats. -/
theorem test_table_words :
    decodeTableWord 8 0xD = some .adpcmD ∧ decodeTableWord 56 0x9001C00008000 = some (.writeLforeW16 0 0x8000) ∧
    decodeTableWord 16 0x400 = some .fmtNoise ∧ decodeTableWord 16 0x6000 = some .sgcRelease ∧
    decodeTableWord 56 0xB000000000000 = some .writeBadsize := by decide

/-! Helpers. -/

/-- Whether an outcome is a next state with a property. -/
def nextWith (o : Host.Outcome State Fault Refusal) (p : State → Bool) : Bool :=
  match o with
  | .next t => p t
  | .fault _ => false
  | .refused _ => false

/-- A memory of one entry reads 0 elsewhere. -/
theorem read_single_of_ne {a o : Nat} {v : Byte} (h : o ≠ a) : Memory.read [(a, v)] o = 0 := by
  simp [Memory.read, Memory.unlisted, Ne.symm h]

/-- The power-on state with registers, wave memory and channel 0 replaced. -/
def lab (regs wave : Memory) (ch : Channel) : State :=
  { State.reset with regs := regs, wave := wave, chans := State.reset.chans.set 0 ch }

/-- An enabled channel in an envelope state. -/
def playing (st : EgState) (fp : Nat) : Channel := { Channel.reset with enabled := true, aegState := st, aegFp := fp }

/-- Channel 0's rules' view of registers and wave memory. -/
def view (regs wave : Memory) : Lane := { cfg := Toggles.core, regs := regs, wave := wave, c := 0 }

/-- The samples 0, 1000, 2000, 3000, 4000, 5000 of 95_test_vectors.md section 3.2, at 0x100. -/
def ramp : Memory :=
  [(0x102, 0xE8), (0x103, 0x03), (0x104, 0xD0), (0x105, 0x07), (0x106, 0xB8), (0x107, 0x0B), (0x108, 0xA0), (0x109, 0x0F),
   (0x10A, 0x88), (0x10B, 0x13)]

/-- T1's fields: LPCTL = 1, SA = 0x100, LSA = 2, LEA = 5, OCT = 1. -/
def loopRegs : Memory := [(0x01, 0x02), (0x05, 0x01), (0x08, 2), (0x0C, 5), (0x19, 0x08)]

/-! Single steps, against 95_test_vectors.md. -/

/-- D1: every code from the reset state of the decoder. -/
theorem test_adpcm_from_reset :
    (List.range 16).map (fun n => adpcmDecode (BitVec.ofNat 4 n) 0 127) =
      [(15, 127), (47, 127), (79, 127), (111, 127), (142, 152), (174, 202), (206, 254), (238, 304),
       (-15, 127), (-47, 127), (-79, 127), (-111, 127), (-142, 152), (-174, 202), (-206, 254), (-238, 304)] := by decide

/-- D5, D6, D8: the three clamps. -/
theorem test_adpcm_clamps :
    adpcmDecode 7 0 0x6000 = (32767, 24576) ∧ adpcmDecode 0xF (-30000) 0x6000 = (-32768, 24576) ∧
    adpcmDecode 0xC 100 1000 = (-1025, 1199) := by decide

/-- D3, second line: the row ADPCM_7 commits on the channel it is run on. -/
theorem test_adpcm7_row :
    nextWith (exec .adpcm7 (lab [] [] { Channel.reset with s0 := 238, q := 304 }))
      (fun t => decide ((t.chan 0).s0 = 808 ∧ (t.chan 0).q = 729 ∧ (t.chan 0).s1 = 0)) = true := by decide

/-- T1, step 3: the loop end is met at sample 5 and the second increment follows. -/
theorem test_stream_loop_wrap :
    let t := Channel.streamStep { Channel.reset with ca := 4, s0 := 4000, s1 := 5000 } (view loopRegs ramp)
    t.ca = 3 ∧ t.s0 = 3000 ∧ t.s1 = 4000 ∧ t.looped = true ∧ t.frac = 0 := by decide

/-- T2: without looping the channel is disabled at the third increment and the fourth still runs. -/
theorem test_stream_one_shot_end :
    let t := (playing .attack 0).streamStep (view [(0x05, 0x01), (0x08, 1), (0x0C, 3), (0x19, 0x10)] ramp)
    t.ca = 2 ∧ t.looped = true ∧ t.enabled = false ∧ t.aegState = .release ∧ t.envValue = 1023 ∧ t.s0 = 2000 ∧
    t.s1 = 3000 := by decide

/-- T3: the stream format compares the rounded address, so that 6 is not an end and 8 is. -/
theorem test_stream_adpcm_compare :
    let ln := view [(0x00, 0x80), (0x01, 0x03), (0x0C, 6)] []
    ln.format = .adpcmStream ∧ ln.loopEnd 6 = false ∧ ln.loopEnd 7 = false ∧ ln.loopEnd 8 = true := by decide

/-- T4, step 2: the one-shot ADPCM format resets its decoder at the wrap. -/
theorem test_stream_adpcm_reset :
    let t := Channel.streamStep { playing .attack 0 with ca := 1, s0 := 30, s1 := 45 }
      (view [(0x01, 0x03), (0x05, 0x01), (0x0C, 2)] [])
    t.ca = 0 ∧ t.looped = true ∧ t.s0 = 15 ∧ t.s1 = 30 ∧ t.q = 127 := by decide

/-- T5, step 2: UpdateRate 640. -/
theorem test_stream_slow_pitch :
    let t := Channel.streamStep { Channel.reset with frac := 640, s1 := 1000 }
      (view [(0x05, 0x01), (0x0C, 0xFF), (0x19, 0x79)] ramp)
    t.ca = 1 ∧ t.frac = 256 ∧ t.interp = 1250 := by decide

/-- T7: the row FMT_PCM8 scales by 256. -/
theorem test_fmt_pcm8_row :
    nextWith (exec .fmtPcm8 (lab [(0x05, 0x01)] [(0x100, 0x80), (0x101, 0x7F)] Channel.reset))
      (fun t => decide ((t.chan 0).s0 = -32768 ∧ (t.chan 0).s1 = 32512)) = true := by decide

/-- T8: the row FMT_NOISE after key-on's advance. -/
theorem test_fmt_noise_row :
    nextWith (exec .fmtNoise (lab [] [] { Channel.reset with noise := 0xBEEF }))
      (fun t => decide ((t.chan 0).noise = 0x30F7FBD8 ∧ (t.chan 0).s0 = 12535 ∧ (t.chan 0).s1 = -5961)) = true := by
  decide +kernel

/-- T9: the loop-start link. -/
theorem test_loop_start_link :
    let ln := view [(0x08, 3), (0x0C, 8), (0x15, 0x40)] []
    (Channel.streamCross { playing .attack 9 with ca := 1 } ln true).aegState = .attack ∧
    (Channel.streamCross { playing .attack 9 with ca := 2 } ln true).aegState = .decay1 := by decide

/-- T10: interpolation floors. -/
theorem test_interpolation :
    Channel.interp { Channel.reset with s0 := 100, s1 := 200, frac := 512 } = 150 ∧
    Channel.interp { Channel.reset with s0 := -1, s1 := 0, frac := 1 } = -1 ∧
    Channel.interp { Channel.reset with s0 := 1, s1 := 0, frac := 1023 } = 0 := by decide

/-- E-rate: KRS = 4, OCT = 7, FNS = 0x200 and re = 15 give 49; KRS = 15, OCT = 7, FNS = 0x3FF and re = 10 give 35. -/
theorem test_effective_rate :
    (view [(0x15, 0x10), (0x19, 0x3A)] []).effRate 15 = 49 ∧
    (view [(0x15, 0x3C), (0x18, 0xFF), (0x19, 0x3B)] []).effRate 10 = 35 ∧
    (view [(0x19, 0x40)] []).effRate 0 = 0 := by decide

/-- A1, step 1 and the last step: the row SGC_ATTACK at rate 40. -/
theorem test_sgc_attack_row :
    let regs : Memory := [(0x10, 20), (0x15, 0x3C)]
    nextWith (exec .sgcAttack (lab regs [] (playing .attack 67043328)))
      (fun t => decide ((t.chan 0).aegFp = 66916516 ∧ (t.chan 0).aegState = .attack)) = true ∧
    nextWith (exec .sgcAttack (lab regs [] (playing .attack 86592)))
      (fun t => decide ((t.chan 0).aegFp = 0 ∧ (t.chan 0).aegState = .decay1)) = true := by decide

/-- A5: the row SGC_DECAY1 is clamped at 1023. -/
theorem test_sgc_decay1_row :
    nextWith (exec .sgcDecay1 (lab [(0x10, 0xC0), (0x11, 0x07), (0x14, 0xE0), (0x15, 0x3F)] [] (playing .decay1 (1020 * 65536))))
      (fun t => decide ((t.chan 0).aegFp = 67043328 ∧ (t.chan 0).aegState = .decay2)) = true := by decide

/-- A6, first value: the row SGC_DECAY2 at rate 62. -/
theorem test_sgc_decay2_row :
    nextWith (exec .sgcDecay2 (lab [(0x11, 0xF8), (0x15, 0x3C)] [] (playing .decay2 (1000 * 65536))))
      (fun t => decide ((t.chan 0).envValue = 1006 ∧ (t.chan 0).aegState = .decay2)) = true := by decide

/-- A8: the row SGC_RELEASE with a zero rate ends a channel at 1023 and leaves one at 500. -/
theorem test_sgc_release_row :
    nextWith (exec .sgcRelease (lab [] [] (playing .release (1023 * 65536)))) (fun t => !(t.chan 0).enabled) = true ∧
    nextWith (exec .sgcRelease (lab [] [] (playing .release (500 * 65536))))
      (fun t => (t.chan 0).enabled && decide ((t.chan 0).envValue = 500)) = true := by decide

/-- L2: the four waveforms at 0, 1, 2, 64, 127, 128, 129, 200, 254, 255. -/
theorem test_waveforms :
    let ps : List (BitVec 8) := [0, 1, 2, 64, 127, 128, 129, 200, 254, 255]
    ps.map waveSaw = ps ∧ ps.map waveSquare = [0, 0, 0, 0, 0, 255, 255, 255, 255, 255] ∧
    ps.map waveTriangle = [0, 2, 4, 128, 254, 254, 252, 110, 2, 0] ∧
    ps.map waveNoise = [0, 9, 18, 72, 148, 144, 153, 153, 13, 4] := by decide

/-- L3: the row LFO_TRIANGLE at depth 7 and the row LFO_SQUARE at depth 4. -/
theorem test_lfo_rows :
    nextWith (exec .lfoTriangle (lab [(0x1C, 7)] [] { Channel.reset with lfoPhase := 64 }))
      (fun t => decide ((t.chan 0).alfo = 64)) = true ∧
    nextWith (exec .lfoSquare (lab [(0x1C, 4)] [] { Channel.reset with lfoPhase := 200 }))
      (fun t => decide ((t.chan 0).alfo = 15)) = true := by decide

/-- L5: the WRITE of 0xFC07 to slot 7 reads back 0x7C07 and leaves phase 0 and counter 1. -/
theorem test_lfore_write :
    nextWith (exec (.writeLforeW16 0 0xFC07) (lab [] [] { Channel.reset with lfoPhase := 9, lfoCounter := 77, alfo := 3 }))
      (fun t => decide (t.regs.half 0x1C = 0x7C07 ∧ (t.chan 0).lfoPhase = 0 ∧ (t.chan 0).lfoCounter = 1 ∧ (t.chan 0).alfo = 0)) =
      true := by decide

/-- M1, M2: table entries. -/
theorem test_mix_tables :
    [0, 1, 8, 16, 32, 48, 64, 128, 160, 200, 240, 241, 254, 255, 511, 1023].map attLut =
      [32768, 31378, 23170, 16384, 8192, 4096, 2048, 128, 32, 5, 1, 0, 0, 0, 0, 0] ∧
    ([0, 1, 8, 15] : List (BitVec 4)).map sendAtt = [511, 112, 56, 0] ∧
    ([0x00, 0x04, 0x0E, 0x0F, 0x10, 0x1F] : List (BitVec 5)).map panAtt = [0, 32, 112, 511, 0, 511] := by decide

/-- M3: the pan directions. -/
theorem test_pan_routing :
    ([0x00, 0x04, 0x14, 0x0F, 0x1F] : List (BitVec 5)).map (panHelper 0) = [(0, 0), (32, 0), (0, 32), (511, 0), (0, 511)] := by
  decide

/-- M5: attenuation floors. -/
theorem test_attenuate_floors : attenuate (-1) 16 = -1 ∧ attenuate 1 16 = 0 := by decide

/-- M7: the CD pair (1000, -2000) at full level, unpanned left and right as in program P5, MVOL = 15; then with MONO. -/
theorem test_tick_with_cd_input :
    let s : State := { lab [(0x2040, 0x0F), (0x2041, 0x0F), (0x2044, 0x1F), (0x2045, 0x0F), (0x2800, 0x0F)] [] Channel.reset with
      inp := { Inputs.none with cdL := 1000, cdR := 0xF830 } }
    nextWith (exec .tick s) (fun t => decide (t.frame.l = -2000 ∧ t.frame.r = 1000)) = true := by decide +kernel

/-- S2, K-vectors: KYONEX with KYONB set keys channel 0 on from Release, clears itself, and leaves the others in Release. -/
theorem test_kyonex_keys_on :
    nextWith (exec (.writeKyonexW16 0 0xC000) (lab [(0x05, 0x01)] ramp { Channel.reset with ca := 7, looped := true }))
      (fun t => decide ((t.chan 0).enabled = true ∧ (t.chan 0).aegState = .attack ∧ (t.chan 0).envValue = 1023 ∧
        (t.chan 0).ca = 0 ∧ (t.chan 0).looped = false ∧ (t.chan 0).s1 = 1000 ∧ (t.chan 1).enabled = false ∧
        t.regs.half 0 = 0x4000)) = true := by decide +kernel

/-- S3: key-off leaves the value and the address. -/
theorem test_key_off :
    let t := Channel.keyOff { playing .decay1 1234567 with ca := 9, s0 := 5 }
    t.aegState = .release ∧ t.aegFp = 1234567 ∧ t.enabled = true ∧ t.ca = 9 ∧ t.s0 = 5 := by decide

/-- R1: the 16-bit status READ at reset returns 0x63FF, the READ of CA 0. -/
theorem test_reads_at_reset :
    nextWith (exec (.readStatusClearing .b2) State.reset) (fun t => decide (t.readData = 0x63FF)) = true ∧
    nextWith (exec (.readCa .b2 0) State.reset) (fun t => decide (t.readData = 0)) = true := by decide

/-- S5: the low-byte status READ does not clear the flag, the high-byte READ shows it and clears it. -/
theorem test_status_byte_reads :
    let s := lab [] [] { playing .attack 0 with looped := true }
    nextWith (exec (.readStatus .b1 0) s) (fun t => (t.chan 0).looped) = true ∧
    nextWith (exec (.readStatus .b1 1) s) (fun t => decide (t.readData = 0x80) && !(t.chan 0).looped) = true := by decide

/-- A 32-bit WRITE stores the lower half only, and a READ gives it back with an upper half of zeros (R291, R297). -/
theorem test_write_stores_lower_half :
    nextWith (exec (.writeChSlot2 .b4 1 0 0xDEADBEEF) State.reset)
      (fun t => decide (t.regs = [(0x88, 0xEF), (0x89, 0xBE)]) &&
        nextWith (exec (.readChSlot2 .b4 1 0) t) (fun u => decide (u.readData = 0x0000BEEF))) = true := by decide

/-- R302: what is refused, and misaligned before unmapped. -/
theorem test_refusals :
    (exec (.readMvol .b2 1) State.reset = .refused .misaligned) ∧ (exec (.write .b4 0x2049 0) State.reset = .refused .misaligned) ∧
    (exec (.read .b1 0x2048) State.reset = .refused .unmapped) ∧ (exec .reservedOp State.reset = .refused .badOp) :=
  ⟨rfl, rfl, rfl, rfl⟩

/-- A table word issued after reset is run by the next step, and leaves the queue empty. -/
theorem test_step_runs_fetch_word :
    nextWith (step (State.reset.withFetchWord 56 0x828000000000F)) (fun t => decide (t.regs = [(0x2800, 0x0F)] ∧ t.inbox = [])) =
      true := by decide

/-- A table word of a channel's row issued after reset is run by the next step. -/
theorem test_step_runs_fetched_row :
    nextWith (step (State.reset.withFetchWord 8 0x7)) (fun t => decide ((t.chan 0).s0 = 238 ∧ (t.chan 0).q = 304 ∧ t.inbox = [])) =
      true := by decide

/-- Bytes that are no word are refused by name (notes/assumptions/2.md), and so are a channel's row issued on its own (R290) and a
step under HACK_MIX (A10). -/
theorem test_step_refusals :
    step { State.reset with inbox := [.op .hostop52 [0, 0, 0, 0, 0, 0, 0x10] Inputs.none] } = .refused (.badWord .strayBits) ∧
    step { State.reset with inbox := [.op .adpcm4 [7] Inputs.none] } = .refused .notHostOperation ∧
    step { State.reset with cfg := { Toggles.core with hackMix := true } } = .refused .hackMixUndefined := ⟨rfl, rfl, rfl⟩

/-! For each statement with hypotheses, a state and operands that meet them, at the boundaries of its clauses. -/

/-- A queue of requests. -/
def queued (l : List Request) : State := { State.reset with inbox := l }

/-- The aligned, mapped accesses at the ends of the ranges of the register map. -/
def edges : List (Size × Half) :=
  [(.b4, 0), (.b1, 0x2047), (.b2, 0x2046), (.b4, 0x2800), (.b1, 0x2803), (.b2, 0x280C), (.b1, 0x280F), (.b4, 0x2810),
   (.b1, 0x2811), (.b2, 0x2812), (.b1, 0x2813), (.b4, 0x2814), (.b2, 0x2816), (.b1, 0x2817)]

theorem test_witness_DecodeOfEncodeIsTheInstruction :
    (Instr.read .b4 0xFFFF).WellFormed ∧ (Instr.write .b1 0x2048 7).WellFormed ∧ (Instr.writeChSlot0 .b2 63 0 0x7FFF).WellFormed ∧
    (Instr.writeKyonexW8 63 0x80).WellFormed ∧ (Instr.readChReserved24 .b1 0 31 3).WellFormed ∧ Instr.sgcRelease.WellFormed := by
  decide

theorem test_witness_DecodedInstructionsAreWellFormed :
    decode .hostop52 [1, 0, 0, 0, 0x48, 0x20, 0x08] = .ok (.write .b1 0x2048 1) ∧ decode .statusReg16 [0xFF, 0x63] = .ok .sgcRelease :=
  ⟨rfl, rfl⟩

theorem test_witness_IgnoredBitsDoNotMatter : 0 < 4 ∧ 3 < 4 ∧ 0xFFFF < 0x10000 ∧ 2 ^ 32 - 1 < 2 ^ 32 := by decide

/-- A host operation and, with bench set, a channel's row that decode, and table words that do. -/
theorem test_witness_StepRunsTheDecodedRequest :
    let s := queued [.op .hostop52 [0, 0, 0, 0, 0, 0, 0] Inputs.none, .poke 0 1]
    let u : State := { queued [.op .adpcm4 [7] Inputs.none] with bench := true }
    s.cfg.hackMix = false ∧ s.inbox = .op .hostop52 [0, 0, 0, 0, 0, 0, 0] Inputs.none :: [.poke 0 1] ∧
    decode .hostop52 [0, 0, 0, 0, 0, 0, 0] = .ok .tick ∧ u.cfg.hackMix = false ∧ u.bench = true ∧
    u.inbox = .op .adpcm4 [7] Inputs.none :: [] ∧ decode .adpcm4 [7] = .ok .adpcm7 ∧
    decodeTableWord 8 7 = some .adpcm7 ∧ decodeTableWord 56 0 = some .tick := by decide

theorem test_witness_IdleStepChangesNothing : State.reset.cfg.hackMix = false ∧ State.reset.inbox = [] := by decide

theorem test_witness_HackMixConfigurationIsRefused :
    State.cfg { State.reset with cfg := { Toggles.core with hackMix := true } } |>.hackMix := by decide

/-- The last address of wave memory and the first past it. -/
theorem test_witness_HostWaveWriteIsSeenAtOnce :
    (queued [.poke 0x1FFFFF 5]).cfg.hackMix = false ∧ (queued [.poke 0x1FFFFF 5]).inbox = .poke 0x1FFFFF 5 :: [] ∧
    0x1FFFFF < 0x200000 ∧ (queued [.poke 0x200000 5]).inbox = .poke 0x200000 5 :: [] ∧ 0x200000 ≤ 0x200000 := by decide

/-- A state in the invariant, with a channel playing, a register and a byte of wave memory listed and a decode queued, that has a next
state. -/
theorem test_witness_EveryStepKeepsTheBounds :
    let s : State := { lab [(0x2800, 0x0F)] [(0x1FFFFF, 1)] (playing .decay1 0) with
      bench := true, inbox := [.op .adpcm4 [7] Inputs.none] }
    s.Inv ∧ ∃ t, step s = .next t := by
  refine ⟨⟨by decide, by decide, fun o h => ?_, fun a h => ?_, by decide, by decide, fun c => ?_⟩, _, rfl⟩
  · by_cases e : o = 0x2800
    · subst e; decide
    · exact absurd (Sys2Proof.Tests.read_single_of_ne e) h
  · by_cases e : a = 0x1FFFFF
    · subst e; decide
    · exact absurd (Sys2Proof.Tests.read_single_of_ne e) h
  · refine ⟨?_, ?_, ?_, ?_, ?_, ?_, ?_, ?_, ?_⟩ <;> revert c <;> decide

theorem test_witness_ConfigurationIsReadOnly : ∃ t, step (queued [.poke 0 1]) = .next t := ⟨_, rfl⟩

theorem test_witness_BlockNeverWritesWaveMemory :
    (∃ t, exec .tick State.reset = .next t) ∧ ∃ t, exec (.writeMvol .b1 0 5) State.reset = .next t := ⟨⟨_, rfl⟩, _, rfl⟩

/-- A TICK, a READ and a row of another format are no WRITEs. -/
theorem test_witness_OnlyWritesChangeRegisters :
    (∀ i ∈ [Instr.tick, .readStatusClearing .b2, .sgcAttack],
      ¬(i.format = .hostop52 ∧ encodeWord i / 2 ^ 50 = 2)) ∧ (∃ t, exec .tick State.reset = .next t) ∧
    (∃ t, exec (.readStatusClearing .b2) State.reset = .next t) ∧ ∃ t, exec .sgcAttack State.reset = .next t :=
  ⟨by decide, ⟨_, rfl⟩, ⟨_, rfl⟩, _, rfl⟩

theorem test_witness_WhatAHostSeesRightAfterReset :
    ∀ p ∈ edges, p.2.toNat % p.1.bytes = 0 ∧
      (p.2.toNat < 0x2048 ∨ (0x2800 ≤ p.2.toNat ∧ p.2.toNat ≤ 0x2803) ∨ (0x280C ≤ p.2.toNat ∧ p.2.toNat ≤ 0x2817)) ∧
      (¬(0x2810 ≤ p.2.toNat ∧ p.2.toNat ≤ 0x2813) ∨
        p ∈ ([(.b4, 0x2810), (.b1, 0x2811), (.b2, 0x2812), (.b1, 0x2813)] : List (Size × Half))) := by decide

theorem test_witness_CommittedAdpcmCodesDecode : State.reset.inp.lookahead = false := rfl

theorem test_witness_LookaheadAdpcmCodesOnlyFillS1 :
    (State.inp { State.reset with inp := { Inputs.none with lookahead := true } }).lookahead = true := rfl

theorem test_witness_AdpcmCornerCases : 0x7F ≤ 0x7F ∧ 0x7F ≤ 0x6000 ∧ 0x6000 ≤ 0x6000 ∧ 4 ≤ 4 ∧ 3 ≤ 3 := by decide

/-- The largest positive and the most negative octave. -/
theorem test_witness_PitchStepLaw : (view [(0x19, 0x38)] []).oct.toNat = 7 ∧ (view [(0x19, 0x40)] []).oct.toNat = 8 := by decide

/-- LEA is one past the address reached. -/
theorem test_witness_PositionAdvancesByTheUpdateRate :
    let ln := view loopRegs ramp
    let ch : Channel := { Channel.reset with ca := 2 }
    ch.ca + (ch.frac.toNat + ln.updateRate) / 1024 < ln.lea.toNat ∧
    ch.ca + (ch.frac.toNat + ln.updateRate) / 1024 + 1 = ln.lea.toNat := by decide

/-- LEA met exactly and not yet, looping and not, in each format. -/
theorem test_witness_LoopEndOfAnIncrement :
    let loop := view loopRegs ramp
    let once := view [(0x0C, 5)] ramp
    let pcm8 := view [(0x00, 0x80), (0x0C, 5)] ramp
    let noise := view [(0x01, 0x04), (0x0C, 5)] []
    let one := view [(0x01, 0x03), (0x0C, 5)] []
    let adpcm := view [(0x00, 0x80), (0x01, 0x03), (0x0C, 8)] []
    let at4 : Channel := { Channel.reset with ca := 4 }
    loop.format = .pcm16 ∧ loop.lea.toNat ≤ at4.ca + 1 ∧ loop.lpctl = true ∧ once.format = .pcm16 ∧
    once.lea.toNat ≤ at4.ca + 1 ∧ once.lpctl = false ∧ 3 + 1 < loop.lea.toNat ∧ pcm8.format = .pcm8 ∧ noise.format = .noise ∧
    one.format = .adpcm ∧ one.lpctl = true ∧ one.cfg.adpcmLoopReset = true ∧ one.lea.toNat ≤ at4.ca + 1 ∧
    adpcm.format = .adpcmStream ∧ adpcm.lea.toNat ≤ (7 + 1) / 4 * 4 ∧ (6 + 1) / 4 * 4 < adpcm.lea.toNat := by decide

/-- Each way in which an increment does not disable the channel. -/
theorem test_witness_LoopStartLinkOfAnIncrement :
    (view loopRegs ramp).lpctl = true ∧
    (0 + 1 < (view [(0x0C, 2)] []).lea.toNat ∧ (view [(0x0C, 2)] []).format ≠ .adpcmStream) ∧
    (let ln := view [(0x00, 0x80), (0x01, 0x01), (0x0C, 5)] []
     ln.format = .adpcmStream ∧ ln.lpctl = false ∧ (6 + 1) / 4 * 4 < ln.lea.toNat) ∧
    (let ln := view [(0x08, 3), (0x0C, 8), (0x15, 0x40)] []
     ln.lpslnk = true ∧ ln.lsa.toNat ≤ 2 + 1 ∧ ¬ln.lsa.toNat ≤ 1 + 1) := by decide

/-- The rows on the last increment and on another. -/
theorem test_witness_FormatRowsFetchTheirSamples :
    State.reset.inp.last = true ∧ (State.inp { State.reset with inp := { Inputs.none with last := false } }).last = false := by
  decide

/-- An enabled channel in each state. -/
theorem test_witness_EnvelopeRowsStepTheirState :
    ∀ st ∈ [EgState.attack, .decay1, .decay2, .release],
      let s := lab [] [] (playing st 65536)
      (s.chan s.inp.channel).enabled = true ∧ (s.chan s.inp.channel).aegState = st := by decide

/-- A disabled channel in the row's state, and an enabled one in another. -/
theorem test_witness_EnvelopeRowOfAnotherStateDoesNothing :
    (State.reset.chan State.reset.inp.channel).enabled = false ∧ (State.reset.chan State.reset.inp.channel).aegState = .release ∧
    ((lab [] [] (playing .attack 0)).chan 0).enabled = true ∧ ((lab [] [] (playing .attack 0)).chan 0).aegState ≠ .decay1 := by
  decide

theorem test_witness_StepTablesFollowTheMillisecondTables :
    (arTimes, aegAttSteps) ∈ [(arTimes, aegAttSteps), (drTimes, aegDsrSteps)] := List.mem_cons_self ..

/-- Both ends of the envelope, in Attack and not. -/
theorem test_witness_EnvelopeMovesOneWayInAState :
    (playing .attack (1023 * 65536)).aegFp ≤ 1023 * 65536 ∧ (playing .attack 0).aegState = .attack ∧
    (playing .release 0).aegFp ≤ 1023 * 65536 ∧ (playing .release 0).aegState ≠ .attack := by decide

/-- One step from the silent end at rate 0, and 100000 steps from 0 at a middle rate. -/
theorem test_witness_ReleaseEndsInTime :
    (playing .release (1023 * 65536)).aegState = .release ∧ 1 ≤ 1 ∧
    1023 * 65536 ≤ (playing .release (1023 * 65536)).aegFp + 1 * (view [] []).releaseRate ∧
    1023 * 65536 ≤ (playing .release 0).aegFp + 100000 * (view [(0x14, 20)] []).releaseRate := by decide

theorem test_witness_WaveformRowsRecomputeTheirOutput :
    State.reset.inp.lfoOut = .amplitude ∧
    (State.inp { State.reset with inp := { Inputs.none with lfoOut := .pitch } }).lfoOut = .pitch := by decide

theorem test_witness_LfoPeriodIsItsStartValue :
    1 ≤ Channel.reset.lfoCounter ∧ 1019 < Channel.reset.lfoCounter ∧ 1 ≤ Channel.lfoCounter { Channel.reset with lfoCounter := 1 } := by
  decide

theorem test_witness_GenericWriteStoresItsBytes :
    ∀ p ∈ edges, p.2.toNat % p.1.bytes = 0 ∧
      (p.2.toNat < 0x2048 ∨ (0x2800 ≤ p.2.toNat ∧ p.2.toNat ≤ 0x2803) ∨ (0x280C ≤ p.2.toNat ∧ p.2.toNat ≤ 0x2817)) := by decide

/-- Bytes 0 to 3 of a slot, and well-formed rows with conditions of their own. -/
theorem test_witness_RegisterWriteRowsStore :
    (0 : BitVec 2).toNat % Size.b4.bytes = 0 ∧ (2 : BitVec 2).toNat % Size.b2.bytes = 0 ∧ (3 : BitVec 2).toNat % Size.b1.bytes = 0 ∧
    (Instr.writeChSlot0 .b4 63 0 0x7FFF).WellFormed ∧ (Instr.writeChSlot6 .b1 0 3 0xFF).WellFormed ∧
    (Instr.writeChReserved18 .b2 0 18 2 1).WellFormed ∧ (Instr.writeChReserved20 .b2 0 23 2 1).WellFormed ∧
    (Instr.writeChReserved24 .b2 63 31 2 1).WellFormed ∧ (Instr.writeEfsCd .b4 1 0 1).WellFormed := by decide

theorem test_witness_StatusWritesAreIgnored :
    (0 : BitVec 2).toNat % Size.b4.bytes = 0 ∧ (2 : BitVec 2).toNat % Size.b2.bytes = 0 ∧ (3 : BitVec 2).toNat % Size.b1.bytes = 0 := by
  decide

theorem test_witness_UpperHalfWritesStoreNothing :
    ∀ p ∈ ([(.b2, 2), (.b1, 0x2047), (.b2, 0x2802), (.b1, 0x280F), (.b1, 0x2817)] : List (Size × Half)),
      p.2.toNat % p.1.bytes = 0 ∧ 2 ≤ p.2.toNat % 4 ∧
      (p.2.toNat < 0x2048 ∨ (0x2800 ≤ p.2.toNat ∧ p.2.toNat ≤ 0x2803) ∨ (0x280C ≤ p.2.toNat ∧ p.2.toNat ≤ 0x2817)) := by decide

/-- A misaligned access of either size, aligned ones just outside the map, and one inside. -/
theorem test_witness_RefusedOperations :
    3 < 4 ∧ 0xFFFF < 0x10000 ∧ 2 ^ 32 - 1 < 2 ^ 32 ∧ (0x2801 : Half).toNat % 2 = 1 ∧ (0x2802 : Half).toNat % 4 ≠ 0 ∧
    (∀ p ∈ ([(.b4, 0x2048), (.b4, 0x27FC), (.b4, 0x2804), (.b4, 0x2808), (.b4, 0x2818), (.b1, 0xFFFF)] : List (Size × Half)),
      ¬((p.1 = .b2 ∧ p.2.toNat % 2 = 1) ∨ (p.1 = .b4 ∧ p.2.toNat % 4 ≠ 0)) ∧
      ¬(p.2.toNat < 0x2048 ∨ (0x2800 ≤ p.2.toNat ∧ p.2.toNat ≤ 0x2803) ∨ (0x280C ≤ p.2.toNat ∧ p.2.toNat ≤ 0x280F) ∨
        (0x2810 ≤ p.2.toNat ∧ p.2.toNat ≤ 0x2813) ∨ (0x2814 ≤ p.2.toNat ∧ p.2.toNat ≤ 0x2817))) ∧
    (0x2044 : Half).toNat % 4 = 0 ∧ (0x2044 : Half).toNat < 0x2048 := by decide

theorem test_witness_KyonexKeysEveryChannel :
    (Instr.writeKyonexW8 0 0x80).WellFormed ∧ (Instr.writeKyonexW16 63 0x8000).WellFormed ∧
    (Instr.writeKyonexW32 5 0xFFFFC000).WellFormed := by decide

/-- A playing channel, and a released one in each format. -/
theorem test_witness_KeyOnRestartsAReleasedChannel :
    (playing .decay2 0).aegState ≠ .release ∧ Channel.reset.aegState = .release ∧ (view [] []).format = .pcm16 ∧
    (view [(0x00, 0x80)] []).format = .pcm8 ∧ (view [(0x01, 0x01)] []).format = .adpcm ∧
    (view [(0x00, 0x80), (0x01, 0x01)] []).format = .adpcmStream ∧ (view [(0x01, 0x04)] []).format = .noise := by decide

theorem test_witness_KeyOffReleasesAPlayingChannel :
    (playing .attack 0).aegState ≠ .release ∧ Channel.reset.aegState = .release := by decide

/-- Bytes 2 and 3, and bytes 0 and 1 without LFORE. -/
theorem test_witness_LfoRegisterWriteRecomputes :
    ∀ p ∈ ([(.b2, 2, 0x8000), (.b1, 3, 0x80), (.b1, 1, 0x7F), (.b1, 0, 0x80), (.b4, 0, 0x7FFF)] : List (Size × BitVec 2 × Word)),
      p.2.1.toNat % p.1.bytes = 0 ∧ (Instr.writeChSlot7 p.1 0 p.2.1 p.2.2).WellFormed := by decide

theorem test_witness_LforeWriteResetsThePhase :
    (Instr.writeLforeW8 0 0x80).WellFormed ∧ (Instr.writeLforeW16 63 0x8000).WellFormed ∧
    (Instr.writeLforeW32 5 0xFFFF8000).WellFormed := by decide

theorem test_witness_GenericReadReturnsAndClears :
    ∀ p ∈ edges, p.2.toNat % p.1.bytes = 0 ∧
      (p.2.toNat < 0x2048 ∨ (0x2800 ≤ p.2.toNat ∧ p.2.toNat ≤ 0x2803) ∨ (0x280C ≤ p.2.toNat ∧ p.2.toNat ≤ 0x2817)) := by decide

theorem test_witness_RegisterReadRowsReturnTheStoredBytes :
    (0 : BitVec 2).toNat % Size.b4.bytes = 0 ∧ (2 : BitVec 2).toNat % Size.b2.bytes = 0 ∧ (3 : BitVec 2).toNat % Size.b1.bytes = 0 := by
  decide

/-- MSLC selects channel 63 with the reserved and AFSET bits set; the selected channel's value is the largest a channel of the
statement can hold. -/
theorem test_witness_StatusReadsReportAndClear :
    (63 : Chan).toNat = ((lab [(0x280D, 0xFF)] [] Channel.reset).regByte 0x280D).toNat % 64 ∧
    ((lab [(0x280D, 0xFF)] [] Channel.reset).chan 63).aegFp < 8192 * 65536 ∧
    (0 : Chan).toNat = ((lab [] [] (playing .attack (8192 * 65536 - 1))).regByte 0x280D).toNat % 64 ∧
    ((lab [] [] (playing .attack (8192 * 65536 - 1))).chan 0).aegFp < 8192 * 65536 := by decide

theorem test_witness_PlayAddressReadsHaveNoSideEffect :
    (63 : Chan).toNat = ((lab [(0x280D, 0x7F)] [] Channel.reset).regByte 0x280D).toNat % 64 ∧
    (0 : Chan).toNat = (State.reset.regByte 0x280D).toNat % 64 := by decide

/-- A WRITE of KYONEX, one of LFORE and one of a common register complete. -/
theorem test_witness_WriteThenReadBack :
    (∃ t, exec (.write .b1 1 0x40) State.reset = .next t) ∧ (∃ t, exec (.write .b4 28 0x8000) State.reset = .next t) ∧
    (∃ t, exec (.write .b2 0x280C 0x3F00) State.reset = .next t) ∧
    ∀ a ∈ [1, 28, 0x280C], ¬(0x2810 ≤ a ∧ a ≤ 0x2817) := ⟨⟨_, rfl⟩, ⟨_, rfl⟩, ⟨_, rfl⟩, by decide⟩

theorem test_witness_MuteCodeSilencesTheOutput :
    ((lab [(0x2800, 0xF0)] [] (playing .attack 0)).regByte 0x2800).toNat % 16 = 0 := by decide

/-- An enabled channel at V = 1020, with the CD muted and with both CD levels 0. -/
theorem test_witness_SilentEnvelopesGiveSilence :
    let s := lab [] [] (playing .decay2 (1020 * 65536))
    let muted : State := { s with cfg := { Toggles.core with cdMute := true } }
    (∀ c, (s.chan c).enabled = true → 1020 * 65536 ≤ (s.chan c).aegFp) ∧ (s.regs.efsdl 16 = 0 ∧ s.regs.efsdl 17 = 0) ∧
    (∀ c, (muted.chan c).enabled = true → 1020 * 65536 ≤ (muted.chan c).aegFp) ∧ muted.cfg.cdMute = true ∧
    (s.chan 0).enabled = true := by decide

theorem test_witness_MonoMakesBothSidesEqual : ((lab [(0x2801, 0x80)] [] Channel.reset).regByte 0x2801).getLsbD 7 = true := by decide

theorem test_witness_AttenuationTableIsTheFlooredPower : 254 < 255 ∧ 255 ≤ 255 := by decide

/-- Two states that differ in channel 1, its first register byte and a common register, and agree on channel 0. -/
theorem test_witness_ChannelsDoNotInfluenceEachOther :
    let s := lab [] ramp (playing .attack 0)
    let s' : State := { lab [(128, 1), (0x2800, 3)] ramp (playing .attack 0) with
      chans := (s.chans.set 1 (playing .decay1 7)) }
    s'.cfg = s.cfg ∧ s'.wave = s.wave ∧ s'.chan 0 = s.chan 0 ∧ s'.chan 1 ≠ s.chan 1 ∧
    ∀ o, 128 * (0 : Chan).toNat ≤ o → o < 128 * (0 : Chan).toNat + 128 → s'.regByte o = s.regByte o := by
  refine ⟨by decide, by decide, by decide, by decide, fun o _ h => ?_⟩
  revert o; decide

/-- An idle state, a host write and a host operation that have a next state, and a channel's row, all with bench off. -/
theorem test_witness_StepsAreTheThreeOperations :
    (queued []).bench = false ∧ (∃ t, step (queued []) = .next t) ∧ (∃ t, step (queued [.poke 0 1]) = .next t) ∧
    (∃ t, step (queued [.op .hostop52 [0, 0, 0, 0, 0, 0, 4] Inputs.none]) = .next t) ∧
    (queued [.op .statusReg16 [0, 0] Inputs.none]).cfg.hackMix = false ∧ WordFormat.statusReg16 ≠ .hostop52 :=
  ⟨rfl, ⟨_, rfl⟩, ⟨_, rfl⟩, ⟨_, rfl⟩, rfl, by decide⟩

/-- R81, R85, R88: the fields of 0xC6A5 in slot 0, 0xC35A in slot 4 and 0x4E6B in slot 7. -/
theorem test_register_fields :
    let ln := view [(0x00, 0xA5), (0x01, 0xC6), (0x10, 0x5A), (0x11, 0xC3), (0x1C, 0x6B), (0x1D, 0x4E)] []
    (ln.kyonex = true ∧ ln.kyonb = true ∧ ln.ssctl = true ∧ ln.lpctl = true ∧ ln.pcms = 1 ∧ ln.sa = 0x250000) ∧
    (ln.d2r = 0x18 ∧ ln.d1r = 0x0D ∧ ln.ar = 0x1A) ∧
    (ln.lfore = false ∧ ln.lfof = 0x13 ∧ ln.plfows = 2 ∧ ln.plfos = 3 ∧ ln.alfows = 1 ∧ ln.alfos = 3) := by decide

end Sys2Proof.Tests
end

/-! Family 10_state.md: the envelope's four steps, as equations of its value. -/

namespace Sys2Proof.Machine

/-- V has reached 1023 exactly when the value has reached the silent end. -/
theorem le_shiftRight_aegStepBits_iff (v : Nat) : 1023 ≤ v >>> aegStepBits ↔ aegMax ≤ v := by
  rw [Nat.shiftRight_eq_div_pow, Nat.le_div_iff_mul_le (by decide)]
  rfl

/-- `V >> B ≤ 0` is reached below one whole step of V, where Attack snaps to 0 (42_envelope.md R186). -/
theorem asr_aegStepBits_nonpos_iff (v : Int) : asr v aegStepBits ≤ 0 ↔ v < 65536 := by
  unfold asr aegStepBits
  omega

theorem Channel.attackStep_aegFp (ch : Channel) (ln : Lane) :
    (ch.attackStep ln).aegFp = if ch.aegFp < ln.attackRate + 65536 then 0 else ch.aegFp - ln.attackRate := by
  unfold Channel.attackStep
  simp only [asr_aegStepBits_nonpos_iff]
  by_cases h : ch.aegFp < ln.attackRate + 65536
  · rw [if_pos (by omega), if_pos h]
  · rw [if_neg (by omega), if_neg h]
    show ((ch.aegFp : Int) - ln.attackRate).toNat = _
    omega

theorem Channel.decay1Step_aegFp (ch : Channel) (ln : Lane) :
    (ch.decay1Step ln).aegFp = min (ch.aegFp + ln.decay1Rate) aegMax := by
  unfold Channel.decay1Step
  dsimp only
  split <;> rfl

theorem Channel.decay2Step_aegFp (ch : Channel) (ln : Lane) :
    (ch.decay2Step ln).aegFp = min (ch.aegFp + ln.decay2Rate) aegMax := by
  unfold Channel.decay2Step
  simp only [le_shiftRight_aegStepBits_iff]
  split
  · next h => exact (Nat.min_eq_right h).symm
  · next h => exact (Nat.min_eq_left (Nat.le_of_not_le h)).symm

theorem Channel.releaseStep_aegFp (ch : Channel) (ln : Lane) :
    (ch.releaseStep ln).aegFp = min (ch.aegFp + ln.releaseRate) aegMax := by
  unfold Channel.releaseStep
  simp only [le_shiftRight_aegStepBits_iff]
  split
  · next h => exact (Nat.min_eq_right h).symm
  · next h => exact (Nat.min_eq_left (Nat.le_of_not_le h)).symm

/-- An envelope step in Attack does not raise the value. -/
theorem Channel.aegStep_aegFp_le_of_attack {ch : Channel} (h : ch.aegState = .attack) (ln : Lane) :
    (ch.aegStep ln).aegFp ≤ ch.aegFp := by
  simp only [Channel.aegStep, h, Channel.attackStep_aegFp]
  split <;> omega

/-- Outside Attack an envelope step raises the value by the state's rate, up to the silent end. -/
theorem Channel.aegStep_aegFp_of_ne_attack {ch : Channel} (h : ch.aegState ≠ .attack) (ln : Lane) :
    ∃ rate, (ch.aegStep ln).aegFp = min (ch.aegFp + rate) aegMax := by
  unfold Channel.aegStep
  split
  · next e => exact absurd e h
  · exact ⟨_, ch.decay1Step_aegFp ln⟩
  · exact ⟨_, ch.decay2Step_aegFp ln⟩
  · exact ⟨_, ch.releaseStep_aegFp ln⟩

/-- Every envelope step keeps the bound of R31. -/
theorem Channel.aegStep_aegFp_le_aegMax {ch : Channel} (h : ch.aegFp ≤ aegMax) (ln : Lane) :
    (ch.aegStep ln).aegFp ≤ aegMax := by
  by_cases ha : ch.aegState = .attack
  · exact (Channel.aegStep_aegFp_le_of_attack ha ln).trans h
  · obtain ⟨rate, e⟩ := Channel.aegStep_aegFp_of_ne_attack ha ln
    exact e ▸ Nat.min_le_right _ _

end Sys2Proof.Machine

/-! Family 10_state.md: every operation of a channel keeps the bounds of R31 to R33. -/

namespace Sys2Proof.Machine

variable {ch : Channel}

/-! Of the envelope's steps only Release can disable, and a channel it disables stands at the silent end (R32). -/

@[simp] theorem Channel.attackStep_enabled (ch : Channel) (ln : Lane) : (ch.attackStep ln).enabled = ch.enabled := by
  unfold Channel.attackStep; dsimp only; split <;> rfl

@[simp] theorem Channel.decay1Step_enabled (ch : Channel) (ln : Lane) : (ch.decay1Step ln).enabled = ch.enabled := by
  unfold Channel.decay1Step; dsimp only; split <;> rfl

@[simp] theorem Channel.decay2Step_enabled (ch : Channel) (ln : Lane) : (ch.decay2Step ln).enabled = ch.enabled := by
  unfold Channel.decay2Step; dsimp only; split <;> rfl

theorem Channel.releaseStep_cases (ch : Channel) (ln : Lane) :
    ch.releaseStep ln = ch.disable ∨ ch.releaseStep ln = { ch with aegFp := ch.aegFp + ln.releaseRate } := by
  unfold Channel.releaseStep
  dsimp only
  split
  · exact .inl rfl
  · exact .inr rfl

theorem Channel.aegStep_of_disabled (he : ch.enabled = true) {ln : Lane} (hd : (ch.aegStep ln).enabled = false) :
    (ch.aegStep ln).aegState = .release ∧ (ch.aegStep ln).aegFp = aegMax := by
  cases hs : ch.aegState with
  | attack => simp [Channel.aegStep, hs, he] at hd
  | decay1 => simp [Channel.aegStep, hs, he] at hd
  | decay2 => simp [Channel.aegStep, hs, he] at hd
  | release =>
    simp only [Channel.aegStep, hs] at hd ⊢
    rcases ch.releaseStep_cases ln with e | e
    · rw [e]
      exact ⟨rfl, rfl⟩
    · simp [e, he] at hd

theorem Channel.envValue_of_aegMax (h : ch.aegFp = aegMax) : ch.envValue = 1023 := by
  rw [Channel.envValue, h]
  rfl

theorem Channel.Inv.disable (h : ch.Inv) : ch.disable.Inv :=
  ⟨le_rfl, fun _ => ⟨rfl, Channel.envValue_of_aegMax rfl⟩, h.ca, h.s0, h.s1, h.q, h.lfo, h.alfo, h.plfo⟩

theorem Channel.Inv.setLooped (h : ch.Inv) (l : Bool) : Channel.Inv { ch with looped := l } :=
  ⟨h.env, h.disabled, h.ca, h.s0, h.s1, h.q, h.lfo, h.alfo, h.plfo⟩

theorem Channel.Inv.setFrac (h : ch.Inv) (f : BitVec 10) : Channel.Inv { ch with frac := f } :=
  ⟨h.env, h.disabled, h.ca, h.s0, h.s1, h.q, h.lfo, h.alfo, h.plfo⟩

theorem Channel.Inv.setCa (h : ch.Inv) {a : Nat} (ha : a ≤ 0xFFFF) : Channel.Inv { ch with ca := a } :=
  ⟨h.env, h.disabled, ha, h.s0, h.s1, h.q, h.lfo, h.alfo, h.plfo⟩

theorem Channel.Inv.adpcmReset (h : ch.Inv) : ch.adpcmReset.Inv :=
  ⟨h.env, h.disabled, h.ca, (by decide : inS16 0), h.s1, (by decide : 0x7F ≤ 0x7F ∧ 0x7F ≤ 0x6000), h.lfo, h.alfo, h.plfo⟩

theorem Channel.Inv.adpcmCommit (h : ch.Inv) (c : BitVec 4) : (ch.adpcmCommit c).Inv :=
  ⟨h.env, h.disabled, h.ca, (ch.adpcmCommit_ranges c).1, h.s1, (ch.adpcmCommit_ranges c).2, h.lfo, h.alfo, h.plfo⟩

theorem Channel.Inv.adpcmLookahead (h : ch.Inv) (c : BitVec 4) : (ch.adpcmLookahead c).Inv :=
  ⟨h.env, h.disabled, h.ca, h.s0, ch.adpcmLookahead_range c, h.q, h.lfo, h.alfo, h.plfo⟩

/-! The fetches (R33: every sample is an s16). -/

theorem Channel.Inv.fetchPcm16 (h : ch.Inv) (ln : Lane) (a : Nat) (last : Bool) : (ch.fetchPcm16 ln a last).Inv := by
  unfold Channel.fetchPcm16
  split
  · exact ⟨h.env, h.disabled, h.ca, half_toInt_range _, half_toInt_range _, h.q, h.lfo, h.alfo, h.plfo⟩
  · exact h

theorem Channel.Inv.fetchPcm8 (h : ch.Inv) (ln : Lane) (a : Nat) (last : Bool) : (ch.fetchPcm8 ln a last).Inv := by
  unfold Channel.fetchPcm8
  split
  · exact ⟨h.env, h.disabled, h.ca, byte_scaled_range _, byte_scaled_range _, h.q, h.lfo, h.alfo, h.plfo⟩
  · exact h

theorem Channel.Inv.fetchAdpcm (h : ch.Inv) (ln : Lane) (a : Nat) (last : Bool) : (ch.fetchAdpcm ln a last).Inv := by
  unfold Channel.fetchAdpcm
  dsimp only
  split
  · exact (h.adpcmCommit _).adpcmLookahead _
  · exact h.adpcmCommit _

theorem Channel.Inv.fetchNoise (h : ch.Inv) (last : Bool) : (ch.fetchNoise last).Inv := by
  unfold Channel.fetchNoise
  split
  · exact ⟨h.env, h.disabled, h.ca, half_toInt_range _, half_toInt_range _, h.q, h.lfo, h.alfo, h.plfo⟩
  · exact h

theorem Channel.Inv.fetch (h : ch.Inv) (ln : Lane) (a : Nat) (last : Bool) : (ch.fetch ln a last).Inv := by
  unfold Channel.fetch
  cases ln.format with
  | pcm16 => exact h.fetchPcm16 ln a last
  | pcm8 => exact h.fetchPcm8 ln a last
  | adpcm => exact h.fetchAdpcm ln a last
  | adpcmStream => exact h.fetchAdpcm ln a last
  | noise => exact h.fetchNoise last

/-! The stream stepper. -/

/-- The link leaves Attack only, and a disabled channel is in Release. -/
theorem Channel.Inv.link (h : ch.Inv) (ln : Lane) (ca : Nat) : (ch.link ln ca).Inv := by
  unfold Channel.link
  split
  · next hit =>
    have hatt : ch.aegState = .attack := by
      simp only [Lane.linkHit, Bool.and_eq_true, decide_eq_true_eq] at hit
      exact hit.1.2
    refine ⟨h.env, fun hd => ?_, h.ca, h.s0, h.s1, h.q, h.lfo, h.alfo, h.plfo⟩
    have hrel := (h.disabled hd).1
    rw [hatt] at hrel
    cases hrel
  · exact h

theorem Channel.Inv.hitLoopEnd (h : ch.Inv) (ln : Lane) : (ch.hitLoopEnd ln).Inv := by
  unfold Channel.hitLoopEnd
  split
  · split
    · exact (h.setLooped true).adpcmReset
    · exact h.setLooped true
  · exact (h.setLooped true).disable

/-- An address that is not past the loop end is a 16-bit one: LEA is, and the rounding of the ADPCM stream format goes down to a
multiple of 4 (41_stream.md R157), so that it does not carry an address over the top. -/
theorem Lane.le_of_not_loopEnd {ln : Lane} {ca : Nat} (h : ¬ ln.loopEnd ca = true) : ca ≤ 0xFFFF := by
  have hlea := ln.lea.isLt
  rw [Lane.loopEnd, decide_eq_true_eq, Lane.compareAddr] at h
  split at h <;> omega

theorem Channel.Inv.streamCross (h : ch.Inv) (ln : Lane) (last : Bool) : (ch.streamCross ln last).Inv := by
  unfold Channel.streamCross
  dsimp only
  split
  · have hlsa : ln.lsa.toNat ≤ 0xFFFF := Nat.le_of_lt_succ ln.lsa.isLt
    exact (((h.link ln _).hitLoopEnd ln).setCa hlsa).fetch ln _ last
  · next hend => exact ((h.link ln _).setCa (Lane.le_of_not_loopEnd hend)).fetch ln _ last

theorem Channel.Inv.streamRun (h : ch.Inv) (ln : Lane) (n : Nat) : (ch.streamRun ln n).Inv := by
  induction n generalizing ch with
  | zero => exact h
  | succ n ih => exact ih (h.streamCross ln _)

theorem Channel.Inv.streamStep (h : ch.Inv) (ln : Lane) : (ch.streamStep ln).Inv :=
  (h.setFrac _).streamRun ln _

/-! The envelope, the LFO and the keys. -/

/-- The envelope step of an enabled channel; a TICK and the SGC rows take no other. -/
theorem Channel.Inv.aegStep (h : ch.Inv) (he : ch.enabled = true) (ln : Lane) : (ch.aegStep ln).Inv where
  env := Channel.aegStep_aegFp_le_aegMax h.env ln
  disabled hd := by
    obtain ⟨hs, hv⟩ := Channel.aegStep_of_disabled he hd
    exact ⟨hs, Channel.envValue_of_aegMax hv⟩
  ca := by simpa using h.ca
  s0 := by simpa using h.s0
  s1 := by simpa using h.s1
  q := by simpa using h.q
  lfo := by simpa using h.lfo
  alfo := by simpa using h.alfo
  plfo := by simpa using h.plfo

theorem Channel.Inv.setAlfo (h : ch.Inv) (v : BitVec 8) (d : BitVec 3) : Channel.Inv { ch with alfo := lfoDepth v d } :=
  ⟨h.env, h.disabled, h.ca, h.s0, h.s1, h.q, h.lfo, lfoDepth_le _ _, h.plfo⟩

theorem Channel.Inv.setPlfo (h : ch.Inv) (v : BitVec 8) (d : BitVec 3) : Channel.Inv { ch with plfo := lfoDepth v d } :=
  ⟨h.env, h.disabled, h.ca, h.s0, h.s1, h.q, h.lfo, h.alfo, lfoDepth_le _ _⟩

theorem Channel.Inv.lfoRecompute (h : ch.Inv) (ln : Lane) : (ch.lfoRecompute ln).Inv :=
  (h.setAlfo _ _).setPlfo _ _

theorem Channel.Inv.setLfo (h : ch.Inv) (p : BitVec 8) {n : Nat} (hn : 1 ≤ n ∧ n ≤ 1020) :
    Channel.Inv { ch with lfoPhase := p, lfoCounter := n } :=
  ⟨h.env, h.disabled, h.ca, h.s0, h.s1, h.q, hn, h.alfo, h.plfo⟩

theorem Channel.Inv.lfoStep (h : ch.Inv) (ln : Lane) : (ch.lfoStep ln).Inv := by
  unfold Channel.lfoStep
  split
  · exact (h.setLfo _ (lfoStart_range _)).lfoRecompute ln
  · next hne =>
    have hlfo := h.lfo
    exact h.setLfo ch.lfoPhase (by omega)

theorem Channel.Inv.lfoWrite (h : ch.Inv) (ln : Lane) (lfore : Bool) : (ch.lfoWrite ln lfore).Inv := by
  have hreload : Channel.Inv (if ln.cfg.lfoWriteReloads then { ch with lfoCounter := lfoStart ln.lfof } else ch) := by
    split
    · exact h.setLfo ch.lfoPhase (lfoStart_range _)
    · exact h
  unfold Channel.lfoWrite
  cases lfore with
  | false => exact hreload.lfoRecompute ln
  | true => exact (hreload.setLfo 0 (lfoStart_range _)).lfoRecompute ln

theorem Channel.Inv.keyOn (h : ch.Inv) (ln : Lane) : (ch.keyOn ln).Inv := by
  unfold Channel.keyOn
  split
  · refine (Channel.Inv.adpcmReset ?_).fetch ln 0 true
    exact ⟨le_rfl, fun hd => (nomatch hd), Nat.zero_le _, h.s0, h.s1, h.q, h.lfo, h.alfo, h.plfo⟩
  · exact h

theorem Channel.Inv.keyOff (h : ch.Inv) : ch.keyOff.Inv := by
  unfold Channel.keyOff
  split
  · exact h
  · exact ⟨h.env, fun hd => ⟨rfl, (h.disabled hd).2⟩, h.ca, h.s0, h.s1, h.q, h.lfo, h.alfo, h.plfo⟩

theorem Channel.Inv.keyExecute (h : ch.Inv) (ln : Lane) : (ch.keyExecute ln).Inv := by
  unfold Channel.keyExecute
  split
  · exact h.keyOn ln
  · exact h.keyOff

/-- A channel's whole turn in a TICK. -/
theorem Channel.Inv.turn (h : ch.Inv) (ln : Lane) : (ch.turn ln).Inv := by
  unfold Channel.turn
  split
  · next he => exact ((h.aegStep he ln).streamStep ln).lfoStep ln
  · exact h

end Sys2Proof.Machine

/-! Family 10_state.md: the register bytes after a WRITE, its self-clearing bits included. -/

namespace Sys2Proof.Machine

/-- The WRITE stores 1 into a bit that clears itself: KYONEX of slot 0 or LFORE of slot 7 (45_register_interface.md R292). -/
abbrev commandStored (z : Size) (a : Nat) (d : Word) : Prop :=
  a < 0x2000 ∧ (a / 4 % 32 = 0 ∨ a / 4 % 32 = 7) ∧ topBitStored z (a % 4) d = true

/-- The side effects of a WRITE write the register space only to clear the command bit that the WRITE has stored. -/
theorem State.regs_sideEffects (s : State) (z : Size) (a : Nat) (d : Word) :
    (s.sideEffects z a d).regs =
      if commandStored z a d then clearTopBit s.regs (BitVec.ofNat 6 (a / 128)) (a / 4 % 32) else s.regs := by
  rcases s.sideEffects_cases z a d with ⟨ha, hk, hb, e⟩ | ⟨ha, hk, ht, e⟩ | ⟨h7, h0, e⟩
  · have hcmd : commandStored z a d ↔ topBitStored z (a % 4) d = true := ⟨fun h => h.2.2, fun h => ⟨ha, .inr hk, h⟩⟩
    simp only [e, State.regs_lfoWriteAction, hk, hcmd]
  · simp [e, ha, hk, ht]
  · have hno : ¬ commandStored z a d := fun ⟨ha, hk, ht⟩ => by
      rcases hk with hk | hk
      · exact h0 ⟨ha, hk, ht⟩
      · have hb := ((topBitStored_iff z (a % 4) d).1 ht).1
        exact h7 ⟨ha, hk, by omega⟩
    rw [e, if_neg hno]

/-- Every channel's side effect of a WRITE: an LFO update, a key action, or none. -/
theorem State.chan_sideEffects_inv {s : State} (h : ∀ c, (s.chan c).Inv) (z : Size) (a : Nat) (d : Word) (c : Chan) :
    ((s.sideEffects z a d).chan c).Inv := by
  rcases s.sideEffects_cases z a d with ⟨-, -, -, e⟩ | ⟨-, -, -, e⟩ | ⟨-, -, e⟩ <;> rw [e]
  · rw [State.chan_lfoWriteAction]
    split
    · exact (h _).lfoWrite _ _
    · exact h c
  · rw [State.chan_kyonexAction]
    exact (h c).keyExecute _
  · exact h c

theorem Memory.half_topBit (m : Memory) (o : Nat) : (m.half o).getLsbD 15 = (m.read (o + 1)).getLsbD 7 := by
  rw [Memory.half, BitVec.getLsbD_append]
  rfl

theorem State.kyonex_lane (s : State) (c : Chan) : (s.lane c).kyonex = (s.regByte (slotOffset c 0 + 1)).getLsbD 7 :=
  Memory.half_topBit _ _

theorem State.lfore_lane (s : State) (c : Chan) : (s.lane c).lfore = (s.regByte (slotOffset c 7 + 1)).getLsbD 7 :=
  Memory.half_topBit _ _

theorem topBit_clearTopBit_same (m : Memory) (c : Chan) (k : Nat) :
    ((clearTopBit m c k).read (slotOffset c k + 1)).getLsbD 7 = false := by
  rw [read_clearTopBit, if_pos rfl, BitVec.getLsbD_and, show (0x7F : Byte).getLsbD 7 = false from rfl, Bool.and_false]

/-- Clearing a command bit sets no bit 7 of any byte. -/
theorem topBit_clearTopBit_of {m : Memory} {o : Nat} (h : (m.read o).getLsbD 7 = false) (c : Chan) (k : Nat) :
    ((clearTopBit m c k).read o).getLsbD 7 = false := by
  rw [read_clearTopBit]
  split
  · rw [BitVec.getLsbD_and, h, Bool.false_and]
  · exact h

/-- An aligned WRITE that covers byte 1 of a channel's slot has that channel and slot for its own, and starts at byte 0 or 1. -/
theorem slot_of_covered {z : Size} {a : Nat} (ha : a % z.bytes = 0) {c : Chan} {k : Nat} (hk : k < 32)
    (hlo : a ≤ slotOffset c k + 1) (hhi : slotOffset c k + 1 < a + z.bytes) :
    a < 0x2000 ∧ BitVec.ofNat 6 (a / 128) = c ∧ a / 4 % 32 = k ∧ a % 4 ≤ 1 ∧ 1 < a % 4 + z.bytes ∧
    slotOffset c k + 1 - a = 1 - a % 4 := by
  have hslot := aligned_in_slot ha
  have hc := c.isLt
  unfold slotOffset at hlo hhi ⊢
  exact ⟨by omega, ofNat_eq_of_mod _ _ (by omega), by omega, by omega, by omega, by omega⟩

/-- KYONEX and LFORE read 0 after every WRITE: it does not store the bit, or its side effect clears it. -/
theorem commandBit_sideEffects {s : State} {z : Size} {a : Nat} (d : Word) (ha : a % z.bytes = 0) (c : Chan) {k : Nat}
    (hk : k = 0 ∨ k = 7) (hs : (s.regs.read (slotOffset c k + 1)).getLsbD 7 = false) :
    ((State.sideEffects { s with regs := storeBytes s.regs a d z.bytes } z a d).regs.read (slotOffset c k + 1)).getLsbD 7
      = false := by
  rw [State.regs_sideEffects]
  dsimp only
  by_cases hbit : ((storeBytes s.regs a d z.bytes).read (slotOffset c k + 1)).getLsbD 7 = true
  · have hcov : a ≤ slotOffset c k + 1 ∧ slotOffset c k + 1 < a + z.bytes ∧ byteStored (slotOffset c k + 1) = true := by
      by_contra hno
      rw [read_storeBytes, if_neg hno, hs] at hbit
      cases hbit
    obtain ⟨ha', hc, hk', hb, hz, hi⟩ := slot_of_covered ha (by omega) hcov.1 hcov.2.1
    rw [read_storeBytes, if_pos hcov, hi] at hbit
    have hcmd : commandStored z a d := ⟨ha', hk' ▸ hk, (topBitStored_iff z (a % 4) d).2 ⟨hb, hz, hbit⟩⟩
    rw [if_pos hcmd, hc, hk']
    exact topBit_clearTopBit_same _ c k
  · rw [Bool.not_eq_true] at hbit
    split
    · exact topBit_clearTopBit_of hbit _ _
    · exact hbit

/-- Bytes of one slot are mapped together. -/
theorem mapped_of_same_slot {a o : Nat} (h : mapped a = true) (ho : o / 4 = a / 4) : mapped o = true := by
  rw [mapped_iff] at h ⊢
  omega

/-- A memory lists only offsets of the register map that hold a byte (20_memory.md R66): `State.Inv.regsStored` of the registers. -/
abbrev Memory.inMap (m : Memory) : Prop := ∀ o, m.read o ≠ 0 → byteStored o = true ∧ mapped o = true

/-- A WRITE's byte loop stores into offsets that hold a byte only. -/
theorem inMap_storeBytes {m : Memory} (hm : m.inMap) {z : Size} {a : Nat} (d : Word) (ha : a % z.bytes = 0)
    (hmap : mapped a = true) : (storeBytes m a d z.bytes).inMap := by
  intro o h
  have hslot := aligned_in_slot ha
  rw [read_storeBytes] at h
  split at h
  · next hc => exact ⟨hc.2.2, mapped_of_same_slot hmap (by omega)⟩
  · exact hm o h

theorem inMap_clearTopBit {m : Memory} (hm : m.inMap) (c : Chan) (k : Nat) : (clearTopBit m c k).inMap := by
  intro o h
  refine hm o fun hz => h ?_
  rw [read_clearTopBit, hz]
  split <;> rfl

end Sys2Proof.Machine

/-! Family 10_state.md: the invariant of the machine, at reset and after every step, and what a step leaves alone. -/

namespace Sys2Proof.Machine

variable {s t : State}

theorem State.regByte_eq (hr : t.regs = s.regs) (o : Nat) : t.regByte o = s.regByte o := by
  rw [State.regByte, hr, State.regByte]

/-- The invariant speaks of the register bytes, of wave memory and of the channels alone. -/
theorem State.Inv.of_eq (h : s.Inv) (hr : t.regs = s.regs) (hw : t.wave = s.wave) (hc : ∀ c, (t.chan c).Inv) : t.Inv where
  regsWf := hr ▸ h.regsWf
  waveWf := hw ▸ h.waveWf
  regsStored o ho := h.regsStored o (State.regByte_eq hr o ▸ ho)
  waveInside a ha := h.waveInside a (by rwa [State.waveByte, hw] at ha)
  kyonex c := State.kyonex_lane t c ▸ State.regByte_eq hr _ ▸ State.kyonex_lane s c ▸ h.kyonex c
  lfore c := State.lfore_lane t c ▸ State.regByte_eq hr _ ▸ State.lfore_lane s c ▸ h.lfore c
  chans := hc

theorem State.Inv.setChan (h : s.Inv) (c : Chan) {ch : Channel} (hch : ch.Inv) : (s.setChan c ch).Inv := by
  refine h.of_eq rfl rfl fun j => ?_
  rw [State.chan_setChan]
  split
  · exact hch
  · exact h.chans j

theorem State.Inv.mixTick (h : s.Inv) : s.mixTick.Inv := by
  refine h.of_eq s.regs_mixTick s.wave_mixTick fun c => ?_
  rw [State.chan_mixTick]
  exact (h.chans c).turn _

theorem State.Inv.hostRead (h : s.Inv) {z : Size} {a : Nat} (hx : hostRead z a s = .next t) : t.Inv := by
  obtain ⟨hr, hw, -, -, -, -, -, -, hc⟩ := hostRead_frame hx
  refine h.of_eq hr hw fun c => ?_
  obtain ⟨l, e⟩ := hc c
  exact e ▸ (h.chans c).setLooped l

theorem State.Inv.hostWrite (h : s.Inv) {z : Size} {a : Nat} {d : Word} (hx : hostWrite z a d s = .next t) : t.Inv := by
  rcases hostWrite_cases z a d s with ⟨-, e⟩ | ⟨-, -, e⟩ | ⟨ha, hm, e⟩ <;> rw [e] at hx <;> cases hx
  have hwf := wf_storeBytes h.regsWf a d z.bytes
  have hst := inMap_storeBytes h.regsStored d ha hm
  have hwave := (State.sideEffects_frame { s with regs := storeBytes s.regs a d z.bytes } z a d).1
  constructor
  case regsWf =>
    rw [State.regs_sideEffects]
    split
    · exact wf_clearTopBit hwf _ _
    · exact hwf
  case waveWf => rw [hwave]; exact h.waveWf
  case regsStored =>
    intro o ho
    rw [State.regByte, State.regs_sideEffects] at ho
    split at ho
    · exact inMap_clearTopBit hst _ _ o ho
    · exact hst o ho
  case waveInside => exact fun b hb => h.waveInside b (by rwa [State.waveByte, hwave] at hb)
  case kyonex =>
    intro c
    rw [State.kyonex_lane]
    exact commandBit_sideEffects d ha c (.inl rfl) (s.kyonex_lane c ▸ h.kyonex c)
  case lfore =>
    intro c
    rw [State.lfore_lane]
    exact commandBit_sideEffects d ha c (.inr rfl) (s.lfore_lane c ▸ h.lfore c)
  case chans => exact State.chan_sideEffects_inv (s := { s with regs := storeBytes s.regs a d z.bytes }) h.chans z a d

theorem State.Inv.adpcmUnit (h : s.Inv) (c : BitVec 4) : (s.adpcmUnit c).Inv := by
  refine h.setChan _ ?_
  split
  · exact (h.chans _).adpcmLookahead c
  · exact (h.chans _).adpcmCommit c

theorem State.Inv.aegUnit (h : s.Inv) (st : EgState) : (s.aegUnit st).Inv := by
  unfold State.aegUnit
  dsimp only
  split
  · next hsel => exact h.setChan _ ((h.chans _).aegStep hsel.1 _)
  · exact h

theorem State.Inv.lfoUnit (h : s.Inv) (w : BitVec 8 → BitVec 8) : (s.lfoUnit w).Inv := by
  refine h.setChan _ ?_
  split
  · exact (h.chans _).setAlfo _ _
  · exact (h.chans _).setPlfo _ _

/-- Every instruction keeps the invariant. -/
theorem State.Inv.exec (h : s.Inv) {i : Instr} (hx : exec i s = .next t) : t.Inv := by
  rcases exec_next_cases i s t hx with
    ⟨c, rfl⟩ | rfl | ⟨z, a, hr⟩ | ⟨z, a, d, hw, -⟩ | ⟨st, rfl⟩ | ⟨w, rfl⟩ | ⟨ch, rfl, hfetch⟩
  · exact h.adpcmUnit c
  · exact h.mixTick
  · exact h.hostRead hr
  · exact h.hostWrite hw
  · exact h.aegUnit st
  · exact h.lfoUnit w
  · have hch := h.chans s.inp.channel
    rcases hfetch with rfl | rfl | rfl | rfl
    · exact h.setChan _ (hch.fetchPcm16 _ _ _)
    · exact h.setChan _ (hch.fetchPcm8 _ _ _)
    · exact h.setChan _ (hch.fetchAdpcm _ _ _)
    · exact h.setChan _ (hch.fetchNoise _)

/-- A host write inside wave memory keeps the invariant. -/
theorem State.Inv.poke (h : s.Inv) {a : Nat} (ha : a < aramSize) (v : Byte) (rest : List Request) :
    State.Inv { s with inbox := rest, wave := s.wave.write a v } where
  regsWf := h.regsWf
  waveWf := Memory.wf_write h.waveWf a v
  regsStored := h.regsStored
  waveInside b hb := by
    rw [State.waveByte, Memory.read_write] at hb
    split at hb
    · next e => exact e ▸ ha
    · exact h.waveInside b hb
  kyonex := h.kyonex
  lfore := h.lfore
  chans := h.chans

theorem State.Inv.step (h : s.Inv) (hx : step s = .next t) : t.Inv := by
  obtain ⟨-, ⟨-, rfl⟩ | ⟨a, v, rest, -, ha, rfl⟩ | ⟨f, bs, inp, rest, i, -, -, -, hi⟩⟩ := step_next_cases hx
  · exact h
  · exact h.poke ha v rest
  · exact (h.of_eq (t := s.latch inp rest) rfl rfl h.chans).exec hi

/-- Only a WRITE has a word of kind 10, and no other operation writes the register space. -/
theorem exec_keeps_regs {i : Instr} (hi : ¬(i.format = .hostop52 ∧ encodeWord i / 2 ^ 50 = 2)) (hx : exec i s = .next t) :
    t.regs = s.regs := by
  rcases exec_next_cases i s t hx with
    ⟨c, rfl⟩ | rfl | ⟨z, a, hr⟩ | ⟨z, a, d, -, hkind, hfmt⟩ | ⟨st, rfl⟩ | ⟨w, rfl⟩ | ⟨ch, rfl, -⟩
  · rfl
  · exact s.regs_mixTick
  · exact (hostRead_frame hr).1
  · exact absurd ⟨hfmt, hkind⟩ hi
  · unfold State.aegUnit
    dsimp only
    split <;> rfl
  · rfl
  · rfl

theorem step_keeps_cfg (hx : step s = .next t) : t.cfg = s.cfg := by
  obtain ⟨-, ⟨-, rfl⟩ | ⟨a, v, rest, -, -, rfl⟩ | ⟨f, bs, inp, rest, i, -, -, -, hi⟩⟩ := step_next_cases hx
  · rfl
  · rfl
  · exact (exec_keeps_settings hi).1

@[simp] theorem State.regByte_reset (o : Nat) : State.reset.regByte o = 0 := rfl

theorem length_attRows : attRows.length = 256 := by
  unfold attRows
  simp only [List.length_append, List.length_cons, List.length_nil]

/-- The reset column of R23 is within the bounds of R31 to R33. -/
theorem Channel.inv_reset : Channel.reset.Inv :=
  ⟨by decide, by decide, by decide, by decide, by decide, by decide, by decide, by decide, by decide⟩

end Sys2Proof.Machine

/-! Family 10_state.md: the statements. -/

namespace Sys2Proof.Machine

/-- Settles O11, by what a step can do: each operation of a channel keeps the channel's bounds, and a WRITE's side effects clear the
command bits that it stores. -/
theorem everyStepKeepsTheBounds : Obligations.EveryStepKeepsTheBounds :=
  fun _ _ h hx => h.step hx

/-- Settles O12, by what a step can do: neither a host write nor an instruction writes the configuration. -/
theorem configurationIsReadOnly : Obligations.ConfigurationIsReadOnly :=
  ⟨fun _ _ hx => step_keeps_cfg hx, rfl, rfl, rfl, rfl, rfl, rfl⟩

/-- Settles O14, by what an instruction can do: every row but those of WRITE keeps the register space. -/
theorem onlyWritesChangeRegisters : Obligations.OnlyWritesChangeRegisters :=
  fun _ _ _ hi hx => State.regByte_eq (exec_keeps_regs hi hx)

/-- Settles O31: Attack subtracts, the other states add and stop at the silent end. -/
theorem envelopeMovesOneWayInAState : Obligations.EnvelopeMovesOneWayInAState := by
  intro ch ln hb
  refine ⟨fun ha => Channel.aegStep_aegFp_le_of_attack ha ln, fun ha => ?_, Channel.aegStep_aegFp_le_aegMax hb ln⟩
  obtain ⟨rate, e⟩ := Channel.aegStep_aegFp_of_ne_attack ha ln
  rw [e]
  exact le_min (Nat.le_add_right _ _) hb

/-- Settles O10: no byte is listed at power-on, and every channel is `Channel.reset`. -/
theorem powerOnStateIsInBounds : Obligations.PowerOnStateIsInBounds where
  regsWf := rfl
  waveWf := rfl
  regsStored o h := absurd (State.regByte_reset o) h
  waveInside a h := absurd (Memory.read_nil a) h
  kyonex c := by rw [State.kyonex_lane, State.regByte_reset]; rfl
  lfore c := by rw [State.lfore_lane, State.regByte_reset]; rfl
  chans c := State.chan_reset c ▸ Channel.inv_reset

/-- Settles O15: the registers list nothing, every channel is `Channel.reset`, and the tables end where R26 says. -/
theorem resetValuesOfThePowerOnState : Obligations.ResetValuesOfThePowerOnState := by
  refine ⟨State.regByte_reset, fun c => ?_, rfl, rfl, rfl, length_attRows, fun i hi => ?_, rfl⟩
  · rw [State.chan_reset]
    exact ⟨rfl, rfl, rfl, rfl, rfl, rfl, rfl, rfl, rfl, rfl, rfl, rfl, rfl, rfl, rfl⟩
  · exact List.getD_eq_default _ _ (length_attRows.trans_le hi)

end Sys2Proof.Machine

/-! Family 20_memory.md: the format rows on wave memory, as equations over its bytes. -/

namespace Sys2Proof.Machine

/-- An ADPCM code is the low or the high nibble of its byte (41_stream.md R166). -/
theorem extractLsb'_nibble (v : Byte) (k : Nat) : v.extractLsb' (4 * k) 4 = BitVec.ofNat 4 (v.toNat / 16 ^ k) := by
  apply BitVec.eq_of_toNat_eq
  rw [BitVec.extractLsb'_toNat, BitVec.toNat_ofNat, Nat.shiftRight_eq_div_pow, Nat.pow_mul]

theorem Lane.adpcmCode_eq_ofNat (ln : Lane) (n : Nat) :
    ln.adpcmCode n = BitVec.ofNat 4 ((ln.wave.read ((ln.sa.toNat + n / 2) % 0x200000)).toNat / 16 ^ (n % 2)) :=
  extractLsb'_nibble _ _

theorem Lane.pcm8Sample_eq_mul (ln : Lane) (n : Nat) :
    ln.pcm8Sample n = 256 * (ln.wave.read ((ln.sa.toNat + n) % 0x200000)).toInt :=
  Int.mul_comm _ _

/-- Storing an update that is made only where `b` holds: without it the state stays. -/
theorem State.setChan_ite (s : State) (c : Chan) (b : Bool) (ch : Channel) :
    s.setChan c (if b then ch else s.chan c) = if b then s.setChan c ch else s := by
  cases b
  · exact s.setChan_chan c
  · rfl

/-- The lookahead starts from the sample and the step that the committed decode has left (40_adpcm.md R127, 41_stream.md R162). -/
theorem Channel.fetchAdpcm_eq (ch : Channel) (ln : Lane) (a : Nat) (last : Bool) :
    ch.fetchAdpcm ln a last =
      (let r := adpcmDecode (ln.adpcmCode a) ch.s0 ch.q
       if last then { ch with s0 := r.1, q := r.2, s1 := (adpcmDecode (ln.adpcmCode (a + 1)) r.1 r.2).1 }
       else { ch with s0 := r.1, q := r.2 }) := rfl

/-- The two ADPCM rows are the same fetch (41_stream.md R163). -/
theorem exec_adpcmRow {i : Instr} (hi : i ∈ [Instr.fmtAdpcm, Instr.fmtAdpcmStream]) (s : State) :
    exec i s = .next (s.setChan s.inp.channel
      ((s.chan s.inp.channel).fetchAdpcm (s.lane s.inp.channel) s.inp.addr s.inp.last)) := by
  rcases List.mem_pair.1 hi with rfl | rfl <;> rfl

/-- Settles O25: the PCM and noise fetches leave the channel alone on an increment that is not the last, and both ADPCM rows run the
one ADPCM fetch (41_stream.md R163). -/
theorem formatRowsFetchTheirSamples : Obligations.FormatRowsFetchTheirSamples := by
  intro s c ch a sa byte pcm16 pcm8 code next sample
  have hcode : ∀ n, (s.lane c).adpcmCode n = code n := (s.lane c).adpcmCode_eq_ofNat
  have hpcm8 : ∀ n, (s.lane c).pcm8Sample n = pcm8 n := (s.lane c).pcm8Sample_eq_mul
  have hnext : ∀ x, noiseNext x = next x := noiseNext_eq_ofNat
  have hsample : ∀ x, noiseSample x = sample x := noiseSample_eq_ofNat
  refine ⟨?pcm16, ?pcm8, ?adpcm, ?noise⟩
  case pcm16 => exact congrArg Host.Outcome.next (s.setChan_ite c s.inp.last _)
  case pcm8 =>
    simp only [← hpcm8]
    exact congrArg Host.Outcome.next (s.setChan_ite c s.inp.last _)
  case adpcm =>
    intro i hi
    simp only [← hcode]
    exact (exec_adpcmRow hi s).trans (congrArg (fun x => Host.Outcome.next (s.setChan c x)) (ch.fetchAdpcm_eq _ _ _))
  case noise =>
    simp only [← hnext, ← hsample]
    exact congrArg Host.Outcome.next (s.setChan_ite c s.inp.last _)

end Sys2Proof.Machine

/-! Family 20_memory.md: the register space after a WRITE, and what a READ returns. -/

namespace Sys2Proof.Machine

theorem exec_read (z : Size) (a : Half) (s : State) : exec (.read z a) s = hostRead z a.toNat s := rfl

theorem exec_write (z : Size) (a : Half) (d : Word) (s : State) : exec (.write z a d) s = hostWrite z a.toNat d s := rfl

/-- The byte of KYONEX or of LFORE of some channel: byte 1 of slot 0 or of slot 7 (30_encoding.md R81, R88). -/
abbrev commandByte (o : Nat) : Prop := o < 0x2000 ∧ (o % 128 = 1 ∨ o % 128 = 29)

/-- A WRITE stores the byte at `o`: the access covers it, and the register space holds it (45_register_interface.md R291). -/
abbrev byteWritten (z : Size) (a o : Nat) : Prop := a ≤ o ∧ o < a + z.bytes ∧ byteStored o = true

theorem and_0x7F_of_topBit_clear {v : Byte} (h : v.getLsbD 7 = false) : v &&& 0x7F = v := by
  revert v
  decide

/-- A WRITE that stores 1 into a self-clearing bit writes the byte which that bit stands in, and no other command byte. -/
theorem commandStored_byte {z : Size} {a : Nat} {d : Word} (ha : a % z.bytes = 0) (h : commandStored z a d) (o : Nat) :
    o = slotOffset (BitVec.ofNat 6 (a / 128)) (a / 4 % 32) + 1 ↔ byteWritten z a o ∧ commandByte o := by
  obtain ⟨hlt, hk, ht⟩ := h
  obtain ⟨hb, hz, -⟩ := (topBitStored_iff z (a % 4) d).1 ht
  have hslot := aligned_in_slot ha
  rw [byteWritten, byteStored_iff, slotOffset, BitVec.toNat_ofNat]
  omega

/-- A WRITE that stores no self-clearing bit writes 0 into bit 7 of every command byte that it covers. -/
theorem topBit_of_not_commandStored {z : Size} {a : Nat} {d : Word} (ha : a % z.bytes = 0) (h : ¬ commandStored z a d)
    {o : Nat} (hw : byteWritten z a o) (ho : commandByte o) : (dataByte d (o - a)).getLsbD 7 = false := by
  have hslot := aligned_in_slot ha
  rw [← Bool.not_eq_true]
  intro hbit
  have hi : o - a = 1 - a % 4 := by omega
  exact h ⟨by omega, by omega, (topBitStored_iff z (a % 4) d).2 ⟨by omega, by omega, hi ▸ hbit⟩⟩

/-- The register space after a whole WRITE: each byte written has its data, but KYONEX and LFORE stand at 0
(45_register_interface.md R291, R292). -/
theorem regByte_hostWrite {z : Size} {a : Nat} (d : Word) (ha : a % z.bytes = 0) (s : State) (o : Nat) :
    (State.sideEffects { s with regs := storeBytes s.regs a d z.bytes } z a d).regByte o =
      if byteWritten z a o then if commandByte o then dataByte d (o - a) &&& 0x7F else dataByte d (o - a)
      else s.regByte o := by
  rw [State.regByte, State.regs_sideEffects]
  dsimp only
  by_cases hcmd : commandStored z a d
  · rw [if_pos hcmd, read_clearTopBit, if_congr (commandStored_byte ha hcmd o) rfl rfl, ite_and, read_storeBytes]
    by_cases hw : byteWritten z a o
    · simp only [if_pos hw]
    · simp only [if_neg hw]
      rfl
  · rw [if_neg hcmd, read_storeBytes]
    split
    · next hw =>
      split
      · next ho => rw [and_0x7F_of_topBit_clear (topBit_of_not_commandStored ha hcmd hw ho)]
      · rfl
    · rfl

/-- The channels that a WRITE's side effects leave alone: all but those of a KYONEX in slot 0, or the own one of slot 7
(45_register_interface.md R293). -/
theorem State.chan_sideEffects_other {s : State} {z : Size} {a : Nat} {d : Word} {j : Chan}
    (h : ¬(a < 0x2000 ∧ (a / 4 % 32 = 0 ∨ (a / 4 % 32 = 7 ∧ j.toNat = a / 128)))) :
    (s.sideEffects z a d).chan j = s.chan j := by
  rcases s.sideEffects_cases z a d with ⟨ha, hk, -, e⟩ | ⟨ha, hk, -, -⟩ | ⟨-, -, e⟩
  · rw [e, State.chan_lfoWriteAction, if_neg]
    rintro rfl
    exact h ⟨ha, .inr ⟨hk, by rw [BitVec.toNat_ofNat]; omega⟩⟩
  · exact absurd ⟨ha, .inl hk⟩ h
  · rw [e]

/-- Settles O36, by the register space after a WRITE, the channels it leaves alone, and its frame. -/
theorem genericWriteStoresItsBytes : Obligations.GenericWriteStoresItsBytes := by
  intro z a d s ha hmap
  have hm : mapped a.toNat = true := (mapped_iff _).2 (by omega)
  refine ⟨_, (exec_write z a d s).trans (hostWrite_next d s ha hm), fun o => ?_, fun j hj => State.chan_sideEffects_other hj,
    State.sideEffects_frame _ z a.toNat d⟩
  simp only [regByte_hostWrite d ha s o, byteWritten, byteStored_iff]

/-- The status clear, by the access (45_register_interface.md R299). -/
theorem statusClears_iff (z : Size) (a : Nat) :
    statusClears z a = true ↔ (a = 0x2810 ∧ z ≠ .b1) ∨ (a = 0x2811 ∧ z = .b1) := by
  cases z <;> simp [statusClears, Size.bytes]

/-- A READ sees the stored byte outside the read-only registers, and 0 in the upper half of a slot
(45_register_interface.md R297). -/
theorem State.readByte_of_not_readOnly (s : State) {o : Nat} (h : ¬(0x2810 ≤ o ∧ o ≤ 0x2817 ∧ o % 4 < 2)) :
    s.readByte o = if o % 4 < 2 then s.regByte o else 0 := by
  unfold State.readByte
  by_cases ho : o % 4 < 2
  · rw [if_neg (by omega), if_neg (by omega), if_neg (by omega), if_pos ho]
  · rw [if_pos (by omega), if_neg ho]

/-- Settles O46: an aligned access lies in one slot, so its bytes are read-only ones only where its offset is. -/
theorem genericReadReturnsAndClears : Obligations.GenericReadReturnsAndClears := by
  intro z a s ha hmap
  have hm : mapped a.toNat = true := (mapped_iff _).2 (by omega)
  refine ⟨s.readBytes a.toNat z.bytes, ?_, fun i hi hro => ?_⟩
  · rw [exec_read, hostRead_next s ha hm]
    simp only [State.statusClear, statusClears_iff]
  · have hslot := aligned_in_slot ha
    rw [dataByte_readBytes s _ _ _ (Size.bytes_le z) hi]
    by_cases hz : i < z.bytes
    · rw [if_pos hz, s.readByte_of_not_readOnly (by omega)]
      simp only [hz, true_and]
    · rw [if_neg hz, if_neg fun h => hz h.1]

end Sys2Proof.Machine

/-! Family 20_memory.md: the step on an admitted request, and the format of what is decoded. -/

namespace Sys2Proof

theorem format_decodeAdpcm (w : Nat) : (decodeAdpcm w).format = .adpcm4 := by
  unfold decodeAdpcm
  split <;> rfl

theorem format_decodeRead (z : Size) (a : Nat) : (decodeRead z a).format = .hostop52 := by
  unfold decodeRead
  dsimp only
  split_ifs
  case pos => split <;> rfl
  all_goals rfl

theorem format_decodeSlot0Write (z : Size) (c : Chan) (b : BitVec 2) (d : Word) :
    (decodeSlot0Write z c b d).format = .hostop52 := by
  unfold decodeSlot0Write
  split
  · cases z <;> rfl
  · rfl

theorem format_decodeSlot7Write (z : Size) (c : Chan) (b : BitVec 2) (d : Word) :
    (decodeSlot7Write z c b d).format = .hostop52 := by
  unfold decodeSlot7Write
  split
  · cases z <;> rfl
  · rfl

theorem format_decodeWrite (z : Size) (a : Nat) (d : Word) : (decodeWrite z a d).format = .hostop52 := by
  unfold decodeWrite
  dsimp only
  split_ifs
  case pos =>
    split
    case h_1 => exact format_decodeSlot0Write z _ _ d
    case h_8 => exact format_decodeSlot7Write z _ _ d
    all_goals rfl
  all_goals rfl

theorem format_decodeHostOp (w : Nat) : (decodeHostOp w).format = .hostop52 := by
  unfold decodeHostOp
  split
  · rfl
  · split
    · rfl
    · exact format_decodeRead _ _
  · split
    · rfl
    · exact format_decodeWrite _ _ _
  · rfl

theorem format_decodeFormatCode (w : Nat) : (decodeFormatCode w).format = .slot0Reg16 := by
  unfold decodeFormatCode
  split
  · rfl
  · split <;> rfl

theorem format_decodeWaveCode (w : Nat) : (decodeWaveCode w).format = .slot7Reg16 := by
  unfold decodeWaveCode
  split <;> rfl

theorem format_decodeStateCode (w : Nat) : (decodeStateCode w).format = .statusReg16 := by
  unfold decodeStateCode
  split <;> rfl

/-- A word stands for a row of its own format. -/
theorem format_decodeWord (f : WordFormat) (w : Nat) : (decodeWord f w).format = f := by
  cases f with
  | adpcm4 => exact format_decodeAdpcm w
  | hostop52 => exact format_decodeHostOp w
  | slot0Reg16 => exact format_decodeFormatCode w
  | slot7Reg16 => exact format_decodeWaveCode w
  | statusReg16 => exact format_decodeStateCode w

theorem decode_eq_ok_iff (f : WordFormat) (bs : List Byte) (i : Instr) :
    decode f bs = .ok i ↔ bs.length = f.bytes ∧ ofLeBytes bs < 2 ^ f.width ∧ decodeWord f (ofLeBytes bs) = i := by
  unfold decode
  split_ifs <;> simp [*]

theorem format_of_decode {f : WordFormat} {bs : List Byte} {i : Instr} (h : decode f bs = .ok i) : i.format = f := by
  obtain ⟨-, -, rfl⟩ := (decode_eq_ok_iff f bs i).1 h
  exact format_decodeWord f _

theorem decodeTableWord_eq_some_iff (n w : Nat) (i : Instr) :
    decodeTableWord n w = some i ↔ decode (tableFormat n w) (tableBytes n w) = .ok i := by
  unfold decodeTableWord
  cases decode (tableFormat n w) (tableBytes n w) <;> simp

end Sys2Proof

namespace Sys2Proof.Machine

/-- An admitted request that decodes is performed after it has left the queue (20_memory.md R68, R69). -/
theorem step_op {s : State} {f : WordFormat} {bs : List Byte} {inp : Inputs} {rest : List Request} {i : Instr}
    (hc : s.cfg.hackMix = false) (ha : s.admits f = true) (hq : s.inbox = .op f bs inp :: rest) (hd : decode f bs = .ok i) :
    step s = exec i (s.latch inp rest) := by
  simp [step, State.configRefusal, hc, hq, ha, hd]

/-- A word that the host has just issued is admitted. -/
theorem State.admits_withFetchWord (s : State) (n w : Nat) : (s.withFetchWord n w).admits (tableFormat n w) = true := by
  rw [State.admits_iff, State.withFetchWord_bench]
  by_cases hf : tableFormat n w = .hostop52
  · exact .inr hf
  · exact .inl (by simp [hf])

/-- Settles O6, by the step on an admitted request; a table word is decoded to a row of the format it was issued in. -/
theorem stepRunsTheDecodedRequest : Obligations.StepRunsTheDecodedRequest := by
  refine ⟨fun s f bs inp rest i hc hf hq hd => step_op hc ((s.admits_iff f).2 hf.symm) hq hd, fun s n w i hc hd => ?_⟩
  have hdec := (decodeTableWord_eq_some_iff n w i).1 hd
  rw [format_of_decode hdec]
  exact step_op (s := s.withFetchWord n w) hc (s.admits_withFetchWord n w) rfl hdec

end Sys2Proof.Machine

/-! Family 30_encoding.md: the decoder after the encoder. -/

namespace Sys2Proof

/-- A kind 00 word is a TICK, whatever its other bits (30_encoding.md R106). -/
theorem decodeHostOp_kind00 {z a d : Nat} (hz : z < 4) (ha : a < 65536) (hd : d < 2 ^ 32) :
    decodeHostOp (hostWord 0 z a d) = .tick := by
  obtain ⟨hk, -⟩ := hostWord_fields (by decide : 0 < 4) hz ha hd
  simp only [decodeHostOp, hk]

/-- A kind 01 word is the READ of its size code and offset, whatever its data bits (30_encoding.md R106). -/
theorem decodeHostOp_kind01 {z a d : Nat} (hz : z < 4) (ha : a < 65536) (hd : d < 2 ^ 32) :
    decodeHostOp (hostWord 1 z a d) = (Size.ofCode z).elim .readBadsize (decodeRead · a) := by
  obtain ⟨hk, hz', ha', -⟩ := hostWord_fields (by decide : 1 < 4) hz ha hd
  simp only [decodeHostOp, hk, hz', ha']
  cases Size.ofCode z <;> rfl

/-- A kind 10 word is the WRITE of its size code, offset and data (30_encoding.md R106). -/
theorem decodeHostOp_kind10 {z a : Nat} (hz : z < 4) (ha : a < 65536) (d : Word) :
    decodeHostOp (hostWord 2 z a d.toNat) = (Size.ofCode z).elim .writeBadsize (decodeWrite · a d) := by
  obtain ⟨hk, hz', ha', hd', -⟩ := hostWord_fields (by decide : 2 < 4) hz ha d.isLt
  simp only [decodeHostOp, hk, hz', ha', ofNat_eq_of_mod d _ hd']
  cases Size.ofCode z <;> rfl

theorem decode_readWord (z : Size) {a : Nat} (ha : a < 65536) {i : Instr} (h : decodeRead z a = i) :
    decode .hostop52 (leBytes 7 (readWord z a)) = .ok i := by
  refine (decode_leBytes .hostop52 (readWord_lt z ha)).trans (congrArg Except.ok ?_)
  rw [decodeWord, readWord, decodeHostOp_kind01 z.code_lt ha (by decide), Size.ofCode_code, Option.elim_some, h]

theorem decode_writeWord (z : Size) {a : Nat} (ha : a < 65536) {d : Word} {i : Instr} (h : decodeWrite z a d = i) :
    decode .hostop52 (leBytes 7 (writeWord z a d)) = .ok i := by
  refine (decode_leBytes .hostop52 (writeWord_lt z d ha)).trans (congrArg Except.ok ?_)
  rw [decodeWord, writeWord, decodeHostOp_kind10 z.code_lt ha, Size.ofCode_code, Option.elim_some, h]

/-- A send slot of the DSP is read back from its offset, which lies below those of the CD input (30_encoding.md R99). -/
theorem efsOffset_dsp (k : BitVec 4) (b : BitVec 2) :
    ¬ efsOffset k.toNat b < 0x2000 ∧ efsOffset k.toNat b < 0x2040 ∧ BitVec.ofNat 4 (efsOffset k.toNat b / 4) = k := by
  have hk := k.isLt
  have hb := b.isLt
  unfold efsOffset
  exact ⟨by omega, by omega, ofNat_eq_of_mod _ _ (by omega)⟩

/-- A send slot of the CD input is read back from its offset (30_encoding.md R99). -/
theorem efsOffset_cd (k : BitVec 1) (b : BitVec 2) :
    ¬ efsOffset (16 + k.toNat) b < 0x2000 ∧ ¬ efsOffset (16 + k.toNat) b < 0x2040 ∧ efsOffset (16 + k.toNat) b < 0x2048 ∧
    BitVec.ofNat 1 (efsOffset (16 + k.toNat) b / 4) = k := by
  have hk := k.isLt
  have hb := b.isLt
  unfold efsOffset
  exact ⟨by omega, by omega, by omega, ofNat_eq_of_mod _ _ (by omega)⟩

/-- The slot at `o` and the byte in it are read back from the offset of the byte, which lies at no lower offset. -/
theorem slotByte_fields {o : Nat} (ho : o % 4 = 0) (b : BitVec 2) :
    (o + b.toNat) / 4 = o / 4 ∧ BitVec.ofNat 2 (o + b.toNat) = b ∧ ∀ n, n ≤ o → ¬ o + b.toNat < n := by
  have hb := b.isLt
  exact ⟨by omega, ofNat_eq_of_mod _ _ (by omega), fun n hn => by omega⟩

theorem chOffset_slotBits (c : Chan) (k : BitVec 5) (b : BitVec 2) : BitVec.ofNat 5 (chOffset c k.toNat b / 4) = k := by
  have hb := b.isLt
  have hk := k.isLt
  unfold chOffset
  exact ofNat_eq_of_mod _ _ (by omega)

theorem decodeRead_reserved18 (z : Size) (c : Chan) {k : BitVec 5} (b : BitVec 2) (hk : 18 ≤ k.toNat ∧ k.toNat ≤ 19) :
    decodeRead z (chOffset c k.toNat b) = .readChReserved18 z c k b := by
  simp only [decodeRead, chOffset_lt c b k.isLt, chOffset_fields c b k.isLt, chOffset_slotBits, if_true]
  obtain hk | hk : k.toNat = 18 ∨ k.toNat = 19 := by omega
  all_goals simp only [hk]

theorem decodeRead_reserved20 (z : Size) (c : Chan) {k : BitVec 5} (b : BitVec 2) (hk : 20 ≤ k.toNat ∧ k.toNat ≤ 23) :
    decodeRead z (chOffset c k.toNat b) = .readChReserved20 z c k b := by
  simp only [decodeRead, chOffset_lt c b k.isLt, chOffset_fields c b k.isLt, chOffset_slotBits, if_true]
  obtain hk | hk | hk | hk : k.toNat = 20 ∨ k.toNat = 21 ∨ k.toNat = 22 ∨ k.toNat = 23 := by omega
  all_goals simp only [hk]

theorem decodeRead_reserved24 (z : Size) (c : Chan) {k : BitVec 5} (b : BitVec 2) (hk : 24 ≤ k.toNat) :
    decodeRead z (chOffset c k.toNat b) = .readChReserved24 z c k b := by
  simp only [decodeRead, chOffset_lt c b k.isLt, chOffset_fields c b k.isLt, chOffset_slotBits, if_true]
  split
  case h_25 => rfl
  all_goals omega

theorem decodeWrite_reserved18 (z : Size) (c : Chan) {k : BitVec 5} (b : BitVec 2) (d : Word)
    (hk : 18 ≤ k.toNat ∧ k.toNat ≤ 19) : decodeWrite z (chOffset c k.toNat b) d = .writeChReserved18 z c k b d := by
  simp only [decodeWrite, chOffset_lt c b k.isLt, chOffset_fields c b k.isLt, chOffset_slotBits, if_true]
  obtain hk | hk : k.toNat = 18 ∨ k.toNat = 19 := by omega
  all_goals simp only [hk]

theorem decodeWrite_reserved20 (z : Size) (c : Chan) {k : BitVec 5} (b : BitVec 2) (d : Word)
    (hk : 20 ≤ k.toNat ∧ k.toNat ≤ 23) : decodeWrite z (chOffset c k.toNat b) d = .writeChReserved20 z c k b d := by
  simp only [decodeWrite, chOffset_lt c b k.isLt, chOffset_fields c b k.isLt, chOffset_slotBits, if_true]
  obtain hk | hk | hk | hk : k.toNat = 20 ∨ k.toNat = 21 ∨ k.toNat = 22 ∨ k.toNat = 23 := by omega
  all_goals simp only [hk]

theorem decodeWrite_reserved24 (z : Size) (c : Chan) {k : BitVec 5} (b : BitVec 2) (d : Word) (hk : 24 ≤ k.toNat) :
    decodeWrite z (chOffset c k.toNat b) d = .writeChReserved24 z c k b d := by
  simp only [decodeWrite, chOffset_lt c b k.isLt, chOffset_fields c b k.isLt, chOffset_slotBits, if_true]
  split
  case h_25 => rfl
  all_goals omega

/-- The generic READ is decoded at an offset that no register row describes. -/
theorem decodeRead_generic (z : Size) {a : Half} (h : registerOffset a.toNat = false) : decodeRead z a.toNat = .read z a := by
  simp only [registerOffset, Bool.or_eq_false_iff, decide_eq_false_iff_not] at h
  obtain ⟨⟨hch, hmvol⟩, hmslc⟩ := h
  rw [decodeRead, if_neg (by omega), if_neg (by omega), if_neg hch, if_neg (by omega), if_neg (by omega), if_neg (by omega),
    if_neg (by omega), BitVec.ofNat_toNat, BitVec.setWidth_eq]

theorem decodeWrite_generic (z : Size) {a : Half} (d : Word) (h : registerOffset a.toNat = false) :
    decodeWrite z a.toNat d = .write z a d := by
  simp only [registerOffset, Bool.or_eq_false_iff, decide_eq_false_iff_not] at h
  obtain ⟨⟨hch, hmvol⟩, hmslc⟩ := h
  rw [decodeWrite, if_neg (by omega), if_neg (by omega), if_neg hch, if_neg (by omega), if_neg (by omega), if_neg (by omega),
    if_neg (by omega), BitVec.ofNat_toNat, BitVec.setWidth_eq]

/-- A READ of the status register is decoded by whether it is the 2- or 4-byte one at its first byte
(notes/assumptions/4.md). -/
theorem decodeRead_status (z : Size) (b : BitVec 2) :
    decodeRead z (0x2810 + b.toNat) = if z ≠ .b1 ∧ b = 0 then .readStatusClearing z else .readStatus z b := by
  simp [decodeRead, slotByte_fields]

/-- A WRITE at slot 0 is decoded by whether it stores KYONEX (notes/assumptions/3.md). -/
theorem decodeWrite_slot0 (z : Size) (c : Chan) (b : BitVec 2) (d : Word) :
    decodeWrite z (chOffset c 0 b) d = decodeSlot0Write z c b d := by
  simp [decodeWrite, chOffset_lt, chOffset_fields]

/-- A WRITE at slot 7 is decoded by whether it stores LFORE (notes/assumptions/3.md). -/
theorem decodeWrite_slot7 (z : Size) (c : Chan) (b : BitVec 2) (d : Word) :
    decodeWrite z (chOffset c 7 b) d = decodeSlot7Write z c b d := by
  simp [decodeWrite, chOffset_lt, chOffset_fields]

theorem decodeSlot0Write_of_not {z : Size} {b : BitVec 2} {d : Word} (h : topBitWritten z b.toNat d = false) (c : Chan) :
    decodeSlot0Write z c b d = .writeChSlot0 z c b d := by
  simp [decodeSlot0Write, h]

theorem decodeSlot7Write_of_not {z : Size} {b : BitVec 2} {d : Word} (h : topBitWritten z b.toNat d = false) (c : Chan) :
    decodeSlot7Write z c b d = .writeChSlot7 z c b d := by
  simp [decodeSlot7Write, h]

open Sys2Proof.Machine (chB efB)

/-- Settles O2: the fields of a host operation's word are read back from it, the offset of a register row is decoded to that row,
and the row's own condition holds it apart from the rows that overlap it. -/
theorem decodeOfEncodeIsTheInstruction : Obligations.DecodeOfEncodeIsTheInstruction := by
  intro i hi
  cases i
  case adpcm0 | adpcm1 | adpcm2 | adpcm3 | adpcm4 | adpcm5 | adpcm6 | adpcm7 | adpcm8 | adpcm9 | adpcmA | adpcmB | adpcmC |
      adpcmD | adpcmE | adpcmF | tick | reservedOp | readBadsize | writeBadsize | fmtPcm16 | fmtPcm8 | fmtAdpcm |
      fmtAdpcmStream | fmtNoise | lfoSaw | lfoSquare | lfoTriangle | lfoNoise | sgcAttack | sgcDecay1 | sgcDecay2 |
      sgcRelease => rfl
  case readChSlot0 z c b | readChSlot1 z c b | readChSlot2 z c b | readChSlot3 z c b | readChSlot4 z c b |
      readChSlot5 z c b | readChSlot6 z c b | readChSlot7 z c b | readChSlot8 z c b | readChSlot9 z c b |
      readChSlot10 z c b | readChSlot11 z c b | readChSlot12 z c b | readChSlot13 z c b | readChSlot14 z c b |
      readChSlot15 z c b | readChSlot16 z c b | readChSlot17 z c b =>
    exact decode_readWord z (chB c b (by decide)) (by simp [decodeRead, chOffset_lt, chOffset_fields])
  case writeChSlot1 z c b d | writeChSlot2 z c b d | writeChSlot3 z c b d | writeChSlot4 z c b d | writeChSlot5 z c b d |
      writeChSlot6 z c b d | writeChSlot8 z c b d | writeChSlot9 z c b d | writeChSlot10 z c b d | writeChSlot11 z c b d |
      writeChSlot12 z c b d | writeChSlot13 z c b d | writeChSlot14 z c b d | writeChSlot15 z c b d |
      writeChSlot16 z c b d | writeChSlot17 z c b d =>
    exact decode_writeWord z (chB c b (by decide)) (by simp [decodeWrite, chOffset_lt, chOffset_fields])
  case read z a => exact decode_readWord z a.isLt (decodeRead_generic z (Bool.eq_false_of_not_eq_true' hi))
  case write z a d => exact decode_writeWord z a.isLt (decodeWrite_generic z d (Bool.eq_false_of_not_eq_true' hi))
  case writeChSlot0 z c b d =>
    exact decode_writeWord z (chB c b (by decide))
      ((decodeWrite_slot0 z c b d).trans (decodeSlot0Write_of_not (Bool.eq_false_of_not_eq_true' hi) c))
  case writeChSlot7 z c b d =>
    exact decode_writeWord z (chB c b (by decide))
      ((decodeWrite_slot7 z c b d).trans (decodeSlot7Write_of_not (Bool.eq_false_of_not_eq_true' hi) c))
  case writeKyonexW16 c d | writeKyonexW32 c d | writeKyonexW8 c d =>
    refine decode_writeWord _ (chB c _ (by decide)) ((decodeWrite_slot0 _ c _ d).trans ?_)
    exact if_pos hi
  case writeLforeW16 c d | writeLforeW32 c d | writeLforeW8 c d =>
    refine decode_writeWord _ (chB c _ (by decide)) ((decodeWrite_slot7 _ c _ d).trans ?_)
    exact if_pos hi
  case readChReserved18 z c k b =>
    exact decode_readWord z (chB c b k.isLt) (decodeRead_reserved18 z c b (of_decide_eq_true hi))
  case readChReserved20 z c k b =>
    exact decode_readWord z (chB c b k.isLt) (decodeRead_reserved20 z c b (of_decide_eq_true hi))
  case readChReserved24 z c k b =>
    exact decode_readWord z (chB c b k.isLt) (decodeRead_reserved24 z c b (of_decide_eq_true hi).1)
  case writeChReserved18 z c k b d =>
    exact decode_writeWord z (chB c b k.isLt) (decodeWrite_reserved18 z c b d (of_decide_eq_true hi))
  case writeChReserved20 z c k b d =>
    exact decode_writeWord z (chB c b k.isLt) (decodeWrite_reserved20 z c b d (of_decide_eq_true hi))
  case writeChReserved24 z c k b d =>
    exact decode_writeWord z (chB c b k.isLt) (decodeWrite_reserved24 z c b d (of_decide_eq_true hi).1)
  case readEfsDsp z k b =>
    exact decode_readWord z (efB b (by omega)) (by simp [decodeRead, efsOffset_dsp, (efsOffset_fields b).2])
  case writeEfsDsp z k b d =>
    exact decode_writeWord z (efB b (by omega)) (by simp [decodeWrite, efsOffset_dsp, (efsOffset_fields b).2])
  case readEfsCd z k b =>
    exact decode_readWord z (efB b (by omega)) (by simp [decodeRead, efsOffset_cd, (efsOffset_fields b).2])
  case writeEfsCd z k b d =>
    exact decode_writeWord z (efB b (by omega)) (by simp [decodeWrite, efsOffset_cd, (efsOffset_fields b).2])
  case readMvol z b | readMslc z b | readCa z b =>
    exact decode_readWord z (by omega) (by simp [decodeRead, slotByte_fields])
  case writeMvol z b d | writeMslc z b d | writeStatus z b d | writeCa z b d =>
    exact decode_writeWord z (by omega) (by simp [decodeWrite, slotByte_fields])
  case readStatus z b =>
    have hplain : ¬(z ≠ .b1 ∧ b = 0) := fun ⟨hz, hb⟩ => by simp [Instr.WellFormed, Instr.wellFormed, hz, hb] at hi
    exact decode_readWord z (by omega) ((decodeRead_status z b).trans (if_neg hplain))
  case readStatusClearing z =>
    exact decode_readWord z (by decide) ((decodeRead_status z 0).trans (if_pos ⟨of_decide_eq_true hi, rfl⟩))

end Sys2Proof

/-! Family 30_encoding.md: what the decoder answers is well formed. -/

namespace Sys2Proof

theorem wellFormed_decodeAdpcm (w : Nat) : (decodeAdpcm w).WellFormed := by
  unfold decodeAdpcm
  split <;> rfl

theorem wellFormed_decodeFormatCode (w : Nat) : (decodeFormatCode w).WellFormed := by
  unfold decodeFormatCode
  split
  · rfl
  · split <;> rfl

theorem wellFormed_decodeWaveCode (w : Nat) : (decodeWaveCode w).WellFormed := by
  unfold decodeWaveCode
  split <;> rfl

theorem wellFormed_decodeStateCode (w : Nat) : (decodeStateCode w).WellFormed := by
  unfold decodeStateCode
  split <;> rfl

theorem wellFormed_decodeSlot0Write (z : Size) (c : Chan) (b : BitVec 2) (d : Word) :
    (decodeSlot0Write z c b d).WellFormed := by
  unfold decodeSlot0Write
  split
  · next h => cases z <;> exact (Bool.and_eq_true_iff.1 h).2
  · next h => exact (Bool.not_eq_true' _).mpr (Bool.eq_false_iff.2 h)

theorem wellFormed_decodeSlot7Write (z : Size) (c : Chan) (b : BitVec 2) (d : Word) :
    (decodeSlot7Write z c b d).WellFormed := by
  unfold decodeSlot7Write
  split
  · next h => cases z <;> exact (Bool.and_eq_true_iff.1 h).2
  · next h => exact (Bool.not_eq_true' _).mpr (Bool.eq_false_iff.2 h)

theorem slotBits_toNat (a : Nat) : (BitVec.ofNat 5 (a / 4)).toNat = a / 4 % 32 := BitVec.toNat_ofNat _ _

/-- The condition of a reserved-slot row, at the slot that the offset names. -/
theorem reservedSlot_wellFormed {a lo hi : Nat} (h : lo ≤ a / 4 % 32 ∧ a / 4 % 32 ≤ hi) :
    decide (lo ≤ (BitVec.ofNat 5 (a / 4)).toNat ∧ (BitVec.ofNat 5 (a / 4)).toNat ≤ hi) = true := by
  rw [slotBits_toNat]
  exact decide_eq_true h

/-- The condition of the generic rows, at an offset outside the mapped slots. -/
theorem genericOffset_wellFormed {a : Nat} (ha : a < 65536) (hch : ¬ a < 0x2048) (hmvol : ¬ a / 4 = 0xA00)
    (hmslc : ¬ a / 4 = 0xA03) (hstatus : ¬ a / 4 = 0xA04) (hca : ¬ a / 4 = 0xA05) : (!registerOffset (BitVec.ofNat 16 a).toNat) = true := by
  rw [BitVec.toNat_ofNat, Nat.mod_eq_of_lt ha, Bool.not_eq_true']
  simp only [registerOffset, Bool.or_eq_false_iff, decide_eq_false_iff_not]
  omega

/-- The row of a READ meets its own condition, by the register that the offset lies in. -/
theorem wellFormed_decodeRead (z : Size) {a : Nat} (ha : a < 65536) : (decodeRead z a).WellFormed := by
  unfold decodeRead
  dsimp only
  split_ifs with hch hdsp hcd hmvol hmslc hstatus hclear hca
  · split
    case h_19 | h_20 | h_21 | h_22 | h_23 | h_24 => exact reservedSlot_wellFormed (by omega)
    case h_25 =>
      simp only [imp_false] at *
      exact reservedSlot_wellFormed (by omega)
    all_goals rfl
  · rfl
  · rfl
  · rfl
  · rfl
  · exact decide_eq_true hclear.1
  · exact (Bool.not_eq_true' _).mpr (by simpa using hclear)
  · rfl
  · exact genericOffset_wellFormed ha hcd hmvol hmslc hstatus hca

/-- The row of a WRITE meets its own condition, by the register that the offset lies in. -/
theorem wellFormed_decodeWrite (z : Size) {a : Nat} (ha : a < 65536) (d : Word) : (decodeWrite z a d).WellFormed := by
  unfold decodeWrite
  dsimp only
  split_ifs with hch hdsp hcd hmvol hmslc hstatus hca
  · split
    case h_1 => exact wellFormed_decodeSlot0Write z _ _ d
    case h_8 => exact wellFormed_decodeSlot7Write z _ _ d
    case h_19 | h_20 | h_21 | h_22 | h_23 | h_24 => exact reservedSlot_wellFormed (by omega)
    case h_25 =>
      simp only [imp_false] at *
      exact reservedSlot_wellFormed (by omega)
    all_goals rfl
  · rfl
  · rfl
  · rfl
  · rfl
  · rfl
  · rfl
  · exact genericOffset_wellFormed ha hcd hmvol hmslc hstatus hca

theorem bitsAt_lt (w lo n : Nat) : bitsAt w lo n < 2 ^ n := Nat.mod_lt _ (Nat.two_pow_pos n)

theorem wellFormed_decodeHostOp (w : Nat) : (decodeHostOp w).WellFormed := by
  unfold decodeHostOp
  split
  · rfl
  · split
    · rfl
    · exact wellFormed_decodeRead _ (bitsAt_lt w 32 16)
  · split
    · rfl
    · exact wellFormed_decodeWrite _ (bitsAt_lt w 32 16) _
  · rfl

theorem wellFormed_decodeWord (f : WordFormat) (w : Nat) : (decodeWord f w).WellFormed := by
  cases f with
  | adpcm4 => exact wellFormed_decodeAdpcm w
  | hostop52 => exact wellFormed_decodeHostOp w
  | slot0Reg16 => exact wellFormed_decodeFormatCode w
  | slot7Reg16 => exact wellFormed_decodeWaveCode w
  | statusReg16 => exact wellFormed_decodeStateCode w

/-- Settles O3, by the row that each format's word stands for. -/
theorem decodedInstructionsAreWellFormed : Obligations.DecodedInstructionsAreWellFormed := by
  intro f bs i h
  refine ⟨?_, format_of_decode h⟩
  obtain ⟨-, -, rfl⟩ := (decode_eq_ok_iff f bs i).1 h
  exact wellFormed_decodeWord f _

/-- Settles O4: the fields of a host operation's word are read apart; a TICK uses the kind alone, and a READ all but the data. -/
theorem ignoredBitsDoNotMatter : Obligations.IgnoredBitsDoNotMatter := by
  intro z a d hz ha hd
  have hread := (decodeHostOp_kind01 hz ha hd).trans (decodeHostOp_kind01 hz ha (Nat.two_pow_pos 32)).symm
  unfold hostWord at hread
  rw [Nat.add_zero] at hread
  exact ⟨decodeHostOp_kind00 hz ha hd, hread⟩

/-- Settles O1: each word is of its format's length and width, and its fields are those of the row. -/
theorem sampleWordsDecode : Obligations.SampleWordsDecode :=
  ⟨rfl, rfl, rfl, rfl, rfl, rfl, rfl, rfl, rfl, rfl, rfl, rfl, rfl⟩

end Sys2Proof

/-! Family 30_encoding.md: the row that the decoder picks does what the generic row does. -/

namespace Sys2Proof.Machine

/-- The offset of the channel, slot and byte that an offset of the channel registers names. -/
theorem chOffset_ofNat {a k : Nat} (ha : a < 0x2000) (hk : a / 4 % 32 = k) :
    chOffset (BitVec.ofNat 6 (a / 128)) k (BitVec.ofNat 2 a) = a := by
  simp only [chOffset, BitVec.toNat_ofNat]
  omega

theorem efsOffset_dsp_ofNat {a : Nat} (h : ¬ a < 0x2000) (h' : a < 0x2040) :
    efsOffset (BitVec.ofNat 4 (a / 4)).toNat (BitVec.ofNat 2 a) = a := by
  simp only [efsOffset, BitVec.toNat_ofNat]
  omega

theorem efsOffset_cd_ofNat {a : Nat} (h : ¬ a < 0x2040) (h' : a < 0x2048) :
    efsOffset (16 + (BitVec.ofNat 1 (a / 4)).toNat) (BitVec.ofNat 2 a) = a := by
  simp only [efsOffset, BitVec.toNat_ofNat]
  omega

theorem slotByte_ofNat {a q : Nat} (h : a / 4 = q) : 4 * q + (BitVec.ofNat 2 a).toNat = a := by
  rw [BitVec.toNat_ofNat]
  omega

/-- The row of a READ is run as the READ at its offset (45_register_interface.md R297). -/
theorem exec_decodeRead (z : Size) {a : Nat} (ha : a < 65536) (s : State) : exec (decodeRead z a) s = hostRead z a s := by
  unfold decodeRead
  dsimp only
  split_ifs with hch hdsp hcd hmvol hmslc hstatus hclear hca
  · split
    case h_19 | h_20 | h_21 | h_22 | h_23 | h_24 | h_25 =>
      exact congrArg (hostRead z · s) (chOffset_ofNat hch (slotBits_toNat a).symm)
    all_goals next hk => exact congrArg (hostRead z · s) (chOffset_ofNat hch hk)
  · exact congrArg (hostRead z · s) (efsOffset_dsp_ofNat hch hdsp)
  · exact congrArg (hostRead z · s) (efsOffset_cd_ofNat hdsp hcd)
  · exact congrArg (hostRead z · s) (slotByte_ofNat hmvol)
  · exact congrArg (hostRead z · s) (slotByte_ofNat hmslc)
  · have hb := slotByte_ofNat hstatus
    rw [hclear.2] at hb
    exact congrArg (hostRead z · s) hb
  · exact congrArg (hostRead z · s) (slotByte_ofNat hstatus)
  · exact congrArg (hostRead z · s) (slotByte_ofNat hca)
  · exact congrArg (hostRead z · s) (Nat.mod_eq_of_lt ha)

/-- The row of a slot 0 WRITE is run as the WRITE at its byte; a KYONEX row has a byte of its own for each size. -/
theorem exec_decodeSlot0Write (z : Size) (c : Chan) (b : BitVec 2) (d : Word) (s : State) :
    exec (decodeSlot0Write z c b d) s = hostWrite z (chOffset c 0 b) d s := by
  unfold decodeSlot0Write
  split
  · next h =>
    cases z
    all_goals
      have hb := of_decide_eq_true (Bool.and_eq_true_iff.1 h).1
      exact congrArg (fun n => hostWrite _ (128 * c.toNat + 4 * 0 + n) d s) hb.symm
  · rfl

theorem exec_decodeSlot7Write (z : Size) (c : Chan) (b : BitVec 2) (d : Word) (s : State) :
    exec (decodeSlot7Write z c b d) s = hostWrite z (chOffset c 7 b) d s := by
  unfold decodeSlot7Write
  split
  · next h =>
    cases z
    all_goals
      have hb := of_decide_eq_true (Bool.and_eq_true_iff.1 h).1
      exact congrArg (fun n => hostWrite _ (128 * c.toNat + 4 * 7 + n) d s) hb.symm
  · rfl

/-- The row of a WRITE is run as the WRITE at its offset (45_register_interface.md R291). -/
theorem exec_decodeWrite (z : Size) {a : Nat} (ha : a < 65536) (d : Word) (s : State) :
    exec (decodeWrite z a d) s = hostWrite z a d s := by
  unfold decodeWrite
  dsimp only
  split_ifs with hch hdsp hcd hmvol hmslc hstatus hca
  · split
    case h_1 hk =>
      exact (exec_decodeSlot0Write z _ _ d s).trans (congrArg (hostWrite z · d s) (chOffset_ofNat hch hk))
    case h_8 hk =>
      exact (exec_decodeSlot7Write z _ _ d s).trans (congrArg (hostWrite z · d s) (chOffset_ofNat hch hk))
    case h_19 | h_20 | h_21 | h_22 | h_23 | h_24 | h_25 =>
      exact congrArg (hostWrite z · d s) (chOffset_ofNat hch (slotBits_toNat a).symm)
    all_goals next hk => exact congrArg (hostWrite z · d s) (chOffset_ofNat hch hk)
  · exact congrArg (hostWrite z · d s) (efsOffset_dsp_ofNat hch hdsp)
  · exact congrArg (hostWrite z · d s) (efsOffset_cd_ofNat hdsp hcd)
  · exact congrArg (hostWrite z · d s) (slotByte_ofNat hmvol)
  · exact congrArg (hostWrite z · d s) (slotByte_ofNat hmslc)
  · exact congrArg (hostWrite z · d s) (slotByte_ofNat hstatus)
  · exact congrArg (hostWrite z · d s) (slotByte_ofNat hca)
  · exact congrArg (hostWrite z · d s) (Nat.mod_eq_of_lt ha)

/-- Settles O5: both rows are the same READ or WRITE of the shared operations. -/
theorem registerRowsRefineTheGenericRows : Obligations.RegisterRowsRefineTheGenericRows := fun z a d s =>
  ⟨(exec_decodeRead z a.isLt s).trans (exec_read z a s).symm, (exec_decodeWrite z a.isLt d s).trans (exec_write z a d s).symm⟩

end Sys2Proof.Machine

/-! Family 30_encoding.md: the register rows on stored bytes. -/

namespace Sys2Proof.Machine

/-- The offset of a mapped slot whose lower half the register space stores: any but the two read-only registers (20_memory.md R65,
R66). -/
abbrev storedSlot (o : Nat) : Prop := o % 4 = 0 ∧ mapped o = true ∧ o ≠ 0x2810 ∧ o ≠ 0x2814

theorem storedSlot_channel (c : Chan) {k : Nat} (hk : k < 32) : storedSlot (128 * c.toNat + 4 * k) := by
  have hc := c.isLt
  exact ⟨by omega, (mapped_iff _).2 (by omega), by omega, by omega⟩

theorem storedSlot_efs {k : Nat} (hk : k < 18) : storedSlot (0x2000 + 4 * k) :=
  ⟨by omega, (mapped_iff _).2 (by omega), by omega, by omega⟩

/-- An access at an aligned byte of a stored slot is performed, and is none to the read-only registers. -/
theorem storedSlot_access {z : Size} {o : Nat} {b : BitVec 2} (ho : storedSlot o) (hb : b.toNat % z.bytes = 0) :
    (o + b.toNat) % z.bytes = 0 ∧ mapped (o + b.toNat) = true ∧ ¬(0x2810 ≤ o + b.toNat ∧ o + b.toNat ≤ 0x2817) := by
  obtain ⟨h4, hm, hs, hca⟩ := ho
  have hb4 := b.isLt
  refine ⟨?_, mapped_of_same_slot hm (by omega), by omega⟩
  cases z <;> simp only [Size.bytes] at hb ⊢ <;> omega

/-- A READ of a stored slot returns its bytes and changes nothing else: the generic READ's statement, without its status clear. -/
theorem hostRead_stored {z : Size} {o : Nat} {b : BitVec 2} (ho : storedSlot o) (hb : b.toNat % z.bytes = 0) (s : State) :
    ∃ v : Word, hostRead z (o + b.toNat) s = .next { s with readData := v } ∧
      ∀ i, i < 4 → dataByte v i = if i < z.bytes ∧ (o + b.toNat + i) % 4 < 2 then s.regByte (o + b.toNat + i) else 0 := by
  obtain ⟨ha, hm, hro⟩ := storedSlot_access ho hb
  have hmap := (mapped_iff _).1 hm
  have hn : (BitVec.ofNat 16 (o + b.toNat)).toNat = o + b.toNat := by rw [BitVec.toNat_ofNat]; omega
  obtain ⟨v, hx, hv⟩ := genericReadReturnsAndClears z (BitVec.ofNat 16 (o + b.toNat)) s (by rwa [hn]) (by omega)
  rw [exec_read, hn, if_neg (by omega)] at hx
  rw [hn] at hv
  exact ⟨v, hx, fun i hi => hv i hi (by omega)⟩

/-- A WRITE to a stored slot that holds no command of its data stores its bytes and changes nothing else
(45_register_interface.md R291, R293). -/
theorem hostWrite_stored {z : Size} {o : Nat} {b : BitVec 2} {d : Word} (ho : storedSlot o) (hb : b.toNat % z.bytes = 0)
    (h7 : ¬(o < 0x2000 ∧ o / 4 % 32 = 7)) (h0 : o < 0x2000 ∧ o / 4 % 32 = 0 → topBitWritten z b.toNat d = false) (s : State) :
    ∃ m : Memory, hostWrite z (o + b.toNat) d s = .next { s with regs := m } ∧
      ∀ p, m.read p = if o + b.toNat ≤ p ∧ p < o + b.toNat + z.bytes ∧ p % 4 < 2 then dataByte d (p - (o + b.toNat))
        else s.regByte p := by
  obtain ⟨ha, hm, hro⟩ := storedSlot_access ho hb
  have hslot := aligned_in_slot ha
  have hb4 := b.isLt
  have ho4 := ho.1
  refine ⟨storeBytes s.regs (o + b.toNat) d z.bytes, ?_, fun p => ?_⟩
  · rw [hostWrite_next d s ha hm]
    rcases State.sideEffects_cases { s with regs := storeBytes s.regs (o + b.toNat) d z.bytes } z (o + b.toNat) d with
      ⟨hlt, hk, -, -⟩ | ⟨hlt, hk, ht, -⟩ | ⟨-, -, e⟩
    · exact absurd ⟨by omega, by omega⟩ h7
    · have hbyte : (o + b.toNat) % 4 = b.toNat := by omega
      rw [hbyte, topBitStored_eq_topBitWritten d hb4 hb, h0 ⟨by omega, by omega⟩] at ht
      cases ht
    · rw [e]
  · rw [read_storeBytes]
    refine if_congr ⟨fun ⟨hlo, hhi, hst⟩ => ⟨hlo, hhi, ((byteStored_iff p).1 hst).1⟩, fun ⟨hlo, hhi, hp⟩ => ?_⟩ rfl rfl
    exact ⟨hlo, hhi, (byteStored_iff p).2 ⟨hp, by omega⟩⟩

theorem exec_readEfsCd (z : Size) (f : BitVec 1) (b : BitVec 2) (s : State) :
    exec (.readEfsCd z f b) s = hostRead z (0x2040 + 4 * f.toNat + b.toNat) s :=
  congrArg (fun o => hostRead z (o + b.toNat) s) (by omega : 0x2000 + 4 * (16 + f.toNat) = 0x2040 + 4 * f.toNat)

theorem exec_writeEfsCd (z : Size) (f : BitVec 1) (b : BitVec 2) (d : Word) (s : State) :
    exec (.writeEfsCd z f b d) s = hostWrite z (0x2040 + 4 * f.toNat + b.toNat) d s :=
  congrArg (fun o => hostWrite z (o + b.toNat) d s) (by omega : 0x2000 + 4 * (16 + f.toNat) = 0x2040 + 4 * f.toNat)

theorem storedSlot_efsCd (f : BitVec 1) : storedSlot (0x2040 + 4 * f.toNat) := by
  have hf := f.isLt
  have he := storedSlot_efs (k := 16 + f.toNat) (by omega)
  rwa [show 0x2000 + 4 * (16 + f.toNat) = 0x2040 + 4 * f.toNat by omega] at he

/-- Settles O47: every row is the READ of a stored slot. -/
theorem registerReadRowsReturnTheStoredBytes : Obligations.RegisterReadRowsReturnTheStoredBytes := by
  intro z c k e f b s hb
  have channel := fun n (hn : n < 32) => hostRead_stored (storedSlot_channel c (k := n) hn) hb s
  have efs := hostRead_stored (storedSlot_efs (k := e.toNat) (by omega)) hb s
  have cd := hostRead_stored (storedSlot_efsCd f) hb s
  rw [← exec_readEfsCd] at cd
  simp only [List.forall_mem_cons]
  refine ⟨channel 0 (by decide), channel 1 (by decide), channel 2 (by decide), channel 3 (by decide), channel 4 (by decide),
    channel 5 (by decide), channel 6 (by decide), channel 7 (by decide), channel 8 (by decide), channel 9 (by decide),
    channel 10 (by decide), channel 11 (by decide), channel 12 (by decide), channel 13 (by decide), channel 14 (by decide),
    channel 15 (by decide), channel 16 (by decide), channel 17 (by decide), channel k.toNat k.isLt, channel k.toNat k.isLt,
    channel k.toNat k.isLt, efs, cd, hostRead_stored (o := 0x2800) (by decide) hb s,
    hostRead_stored (o := 0x280C) (by decide) hb s, fun _ h => nomatch h⟩

/-- Settles O37: every row is the WRITE of a stored slot; its own condition keeps the slot 0 row from KYONEX and the reserved-slot
rows from the command slots. -/
theorem registerWriteRowsStore : Obligations.RegisterWriteRowsStore := by
  intro z c k e f b d s hb
  have channel := fun n (hn : n < 32) (h7 : n ≠ 7) (h0 : n = 0 → topBitWritten z b.toNat d = false) =>
    hostWrite_stored (d := d) (storedSlot_channel c (k := n) hn) hb (by omega) (fun h => h0 (by omega)) s
  have plain := fun n (hn : n < 32 ∧ n ≠ 7 ∧ n ≠ 0) => channel n hn.1 hn.2.1 (absurd · hn.2.2)
  have common := fun o (ho : storedSlot o) (hc : ¬ o < 0x2000) =>
    hostWrite_stored (d := d) ho hb (fun h => hc h.1) (fun h => absurd h.1 hc) s
  have efs := common (0x2000 + 4 * e.toNat) (storedSlot_efs (by omega)) (by omega)
  have cd := common (0x2040 + 4 * f.toNat) (storedSlot_efsCd f) (by omega)
  rw [← exec_writeEfsCd] at cd
  simp only [List.forall_mem_cons]
  refine ⟨fun h => channel 0 (by decide) (by decide) fun _ => Bool.eq_false_of_not_eq_true' h,
    fun _ => plain 1 (by decide), fun _ => plain 2 (by decide), fun _ => plain 3 (by decide), fun _ => plain 4 (by decide),
    fun _ => plain 5 (by decide), fun _ => plain 6 (by decide), fun _ => plain 8 (by decide), fun _ => plain 9 (by decide),
    fun _ => plain 10 (by decide), fun _ => plain 11 (by decide), fun _ => plain 12 (by decide), fun _ => plain 13 (by decide),
    fun _ => plain 14 (by decide), fun _ => plain 15 (by decide), fun _ => plain 16 (by decide), fun _ => plain 17 (by decide),
    fun h => ?reserved18, fun h => ?reserved20, fun h => ?reserved24, fun _ => efs, fun _ => cd,
    fun _ => common 0x2800 (by decide) (by decide), fun _ => common 0x280C (by decide) (by decide), fun _ h => nomatch h⟩
  all_goals
    have hk := of_decide_eq_true h
    exact plain k.toNat ⟨k.isLt, by omega, by omega⟩

end Sys2Proof.Machine

/-! Family 30_encoding.md: the status register's reads. -/

namespace Sys2Proof.Machine

/-- A word from its four bytes, least significant first. -/
theorem word_toNat_eq_bytes (w : Word) : w.toNat = (dataByte w 0).toNat + 256 * (dataByte w 1).toNat +
    65536 * (dataByte w 2).toNat + 16777216 * (dataByte w 3).toNat := by
  have hw := w.isLt
  simp only [dataByte, BitVec.extractLsb'_toNat, Nat.shiftRight_eq_div_pow]
  omega

/-- A READ returns the number whose bytes it sees (45_register_interface.md R297). -/
theorem State.readBytes_eq_ofNat {s : State} {a n v : Nat} (hn : n ≤ 4)
    (h : ∀ i, i < n → s.readByte (a + i) = BitVec.ofNat 8 (v / 256 ^ i)) : s.readBytes a n = BitVec.ofNat 32 (v % 256 ^ n) := by
  have hbyte : ∀ i, i < 4 → (dataByte (s.readBytes a n) i).toNat = if i < n then v / 256 ^ i % 256 else 0 := by
    intro i hi
    rw [dataByte_readBytes s a n i hn hi]
    split
    · next hin => rw [h i hin, BitVec.toNat_ofNat]
    · rfl
  apply BitVec.eq_of_toNat_eq
  rw [word_toNat_eq_bytes, hbyte 0 (by decide), hbyte 1 (by decide), hbyte 2 (by decide), hbyte 3 (by decide),
    BitVec.toNat_ofNat]
  obtain rfl | rfl | rfl | rfl | rfl : n = 0 ∨ n = 1 ∨ n = 2 ∨ n = 3 ∨ n = 4 := by omega
  all_goals
    simp only [Nat.reduceLT, if_true, if_false]
    omega

theorem extractLsb'_byte_eq_ofNat (r : Half) (i : Nat) : r.extractLsb' (8 * i) 8 = BitVec.ofNat 8 (r.toNat / 256 ^ i) := by
  apply BitVec.eq_of_toNat_eq
  rw [BitVec.extractLsb'_toNat, BitVec.toNat_ofNat, Nat.shiftRight_eq_div_pow, Nat.pow_mul]

/-- The bytes of the status register are those of its value, and 0 above it (45_register_interface.md R298). -/
theorem State.readByte_status (s : State) {i : Nat} (hi : i < 4) :
    s.readByte (0x2810 + i) = BitVec.ofNat 8 ((s.chan s.regs.mslc).statusValue.toNat / 256 ^ i) := by
  have hv := (s.chan s.regs.mslc).statusValue.isLt
  unfold State.readByte
  by_cases hup : 2 ≤ i
  · have hzero : (s.chan s.regs.mslc).statusValue.toNat / 256 ^ i = 0 :=
      Nat.div_eq_of_lt (hv.trans_le (Nat.pow_le_pow_right (by decide : 0 < 256) hup))
    rw [if_pos (by omega), hzero]
    rfl
  · rw [if_neg (by omega), if_pos (by omega), Nat.add_sub_cancel_left, extractLsb'_byte_eq_ofNat]

/-- A number put together from an upper and a lower part. -/
theorem append_toNat {m n : Nat} (x : BitVec m) (y : BitVec n) : (x ++ y).toNat = x.toNat * 2 ^ n + y.toNat := by
  rw [BitVec.toNat_append, Nat.shiftLeft_eq, Nat.mul_comm, ← Nat.two_pow_add_eq_or_of_lt y.isLt]

theorem Channel.statusValue_toNat {ch : Channel} (h : ch.aegFp < 8192 * 65536) :
    ch.statusValue.toNat = (if ch.looped then 32768 else 0) + 8192 * ch.aegState.code.toNat + ch.aegFp / 65536 := by
  have henv : ch.envValue = ch.aegFp / 65536 := Nat.shiftRight_eq_div_pow _ _
  rw [Channel.statusValue, append_toNat, append_toNat, BitVec.toNat_ofNat, henv, BitVec.toNat_ofBool]
  cases ch.looped
  all_goals
    simp only [Bool.toNat_true, Bool.toNat_false, if_true, if_false, Bool.false_eq_true]
    omega

/-- MSLC is bits 5:0 of the upper byte of its register (30_encoding.md R99). -/
theorem Memory.mslc_toNat (m : Memory) : m.mslc.toNat = (m.read 0x280D).toNat % 64 := by
  have hlo := (m.read 0x280C).isLt
  simp only [Memory.mslc, regField_toNat, Memory.half_toNat, Nat.reduceAdd]
  omega

/-- An aligned status READ: the bytes of the status value from the one at the offset, after which the status clears
(45_register_interface.md R297 to R299). -/
theorem hostRead_status {z : Size} {b : Nat} (hb : b < 4) (ha : b % z.bytes = 0) (s : State) :
    hostRead z (0x2810 + b) s = .next { s.statusClear z (0x2810 + b) with
      readData := BitVec.ofNat 32 ((s.chan s.regs.mslc).statusValue.toNat / 256 ^ b % 256 ^ z.bytes) } := by
  have hslot : b + z.bytes ≤ 4 := by
    have := aligned_in_slot ha
    omega
  rw [hostRead_next s (by cases z <;> simp only [Size.bytes] at ha ⊢ <;> omega) ((mapped_iff _).2 (by omega)),
    State.readBytes_eq_ofNat (Size.bytes_le z) fun i hi => ?_]
  rw [Nat.add_assoc, s.readByte_status (by omega), Nat.pow_add, Nat.div_div_eq_div_mul]

theorem hostRead_status_clears (z : Size) {b n : Nat} (s : State) (hb : b < 4) (ha : b % z.bytes = 0)
    (hclears : statusClears z (0x2810 + b) = true)
    (hn : (s.chan s.regs.mslc).statusValue.toNat / 256 ^ b % 256 ^ z.bytes = n) :
    hostRead z (0x2810 + b) s =
      .next { s.setChan s.regs.mslc { s.chan s.regs.mslc with looped := false } with readData := BitVec.ofNat 32 n } := by
  rw [hostRead_status hb ha, State.statusClear_of_clears hclears, hn]

theorem hostRead_status_keeps (z : Size) {b n : Nat} (s : State) (hb : b < 4) (ha : b % z.bytes = 0)
    (hkeeps : statusClears z (0x2810 + b) = false)
    (hn : (s.chan s.regs.mslc).statusValue.toNat / 256 ^ b % 256 ^ z.bytes = n) :
    hostRead z (0x2810 + b) s = .next { s with readData := BitVec.ofNat 32 n } := by
  rw [hostRead_status hb ha, State.statusClear_of_not hkeeps, hn]

/-- Settles O48: a status READ returns the bytes of the status value from the one at its offset on, and R299 says which READs
clear. -/
theorem statusReadsReportAndClear : Obligations.StatusReadsReportAndClear := by
  intro s c hc henv ch code v cleared
  obtain rfl : c = s.regs.mslc := BitVec.eq_of_toNat_eq (hc.trans s.regs.mslc_toNat.symm)
  have hcode : ch.aegState.code.toNat = code := by
    subst code
    cases ch.aegState <;> rfl
  have hv : (s.chan s.regs.mslc).statusValue.toNat = v :=
    (Channel.statusValue_toNat henv).trans (congrArg (fun n => _ + 8192 * n + _) hcode)
  have hlt : v < 65536 := hv ▸ ch.statusValue.isLt
  refine ⟨hostRead_status_clears .b2 s (b := 0) (by decide) (by decide) rfl ?_,
    hostRead_status_clears .b4 s (b := 0) (by decide) (by decide) rfl ?_,
    hostRead_status_keeps .b1 s (b := 0) (by decide) (by decide) rfl ?_,
    hostRead_status_clears .b1 s (b := 1) (by decide) (by decide) rfl ?_,
    hostRead_status_keeps .b1 s (b := 2) (by decide) (by decide) rfl ?_,
    hostRead_status_keeps .b1 s (b := 3) (by decide) (by decide) rfl ?_,
    hostRead_status_keeps .b2 s (b := 2) (by decide) (by decide) rfl ?_⟩
  all_goals
    rw [hv]
    simp only [Size.bytes, Nat.reducePow]
    omega

end Sys2Proof.Machine

/-! Family 30_encoding.md: the fields of the registers. -/

namespace Sys2Proof.Machine

/-- A field of a register from the register's two bytes (30_encoding.md R80). -/
theorem regField_half (m : Memory) (o lo n : Nat) :
    (regField (m.half o) lo n).toNat = ((m.read (o + 1)).toNat * 256 + (m.read o).toNat) / 2 ^ lo % 2 ^ n := by
  rw [regField_toNat, Memory.half_toNat]

/-- A one-bit field of a register from the register's two bytes (30_encoding.md R80). -/
theorem half_bit (m : Memory) (o i : Nat) :
    (m.half o).getLsbD i = decide (((m.read (o + 1)).toNat * 256 + (m.read o).toNat) / 2 ^ i % 2 ^ 1 = 1) := by
  rw [half_getLsbD, Memory.half_toNat, Nat.pow_one]

theorem Lane.sa_toNat (ln : Lane) : ln.sa.toNat = (regField (ln.slot 0) 0 7).toNat * 65536 + (ln.slot 1).toNat :=
  append_toNat _ _

/-- OCT as a signed number (30_encoding.md R87). -/
theorem toInt_of_four_bits (x : BitVec 4) : x.toInt = if x.toNat < 8 then (x.toNat : Int) else (x.toNat : Int) - 16 := by
  revert x
  decide

/-- The format by the code of its fields (30_encoding.md R103). -/
theorem Lane.format_eq_getD (ln : Lane) : ln.format = if ln.ssctl = true then .noise else
    [SampleFormat.pcm16, .pcm8, .adpcm, .adpcmStream].getD ln.pcms.toNat .noise := by
  unfold Lane.format
  generalize ln.pcms = p
  cases ln.ssctl
  · revert p
    decide
  · rfl

/-- Settles O59: each field is `regField` or one bit of its register, and a register is its two bytes. -/
theorem registerFieldsAreTheirBits : Obligations.RegisterFieldsAreTheirBits := by
  intro s c ln half slot bits
  have whole : ∀ k, (ln.slot k).toNat = slot k := fun k => Memory.half_toNat _ _
  have field : ∀ k lo n, (regField (ln.slot k) lo n).toNat = bits (slot k) lo n := fun k => regField_half _ _
  have bit : ∀ k i, (ln.slot k).getLsbD i = decide (bits (slot k) i 1 = 1) := fun k => half_bit _ _
  have common : ∀ o lo n, (regField (s.regs.half o) lo n).toNat = bits (half o) lo n := regField_half s.regs
  have commonBit : ∀ o i, (s.regs.half o).getLsbD i = decide (bits (half o) i 1 = 1) := half_bit s.regs
  have sa : ln.sa.toNat = bits (slot 0) 0 7 * 65536 + slot 1 := by rw [Lane.sa_toNat, field, whole]
  have oct : ln.oct.toInt = if bits (slot 6) 11 4 < 8 then (bits (slot 6) 11 4 : Int) else (bits (slot 6) 11 4 : Int) - 16 := by
    rw [toInt_of_four_bits, Lane.oct, field]
  have format : ln.format = if bits (slot 0) 10 1 = 1 then .noise else
      [SampleFormat.pcm16, .pcm8, .adpcm, .adpcmStream].getD (bits (slot 0) 7 2) .noise := by
    rw [Lane.format_eq_getD, Lane.ssctl, bit, Lane.pcms, field]
    simp only [decide_eq_true_eq]
  exact ⟨bit 0 15, bit 0 14, bit 0 10, bit 0 9, field 0 7 2, sa, whole 2, whole 3, field 4 11 5, field 4 6 5, field 4 0 5,
    bit 5 14, field 5 10 4, field 5 5 5, field 5 0 5, field 6 11 4, field 6 0 10, bit 7 15, field 7 10 5, field 7 8 2,
    field 7 5 3, field 7 3 2, field 7 0 3, field 8 4 4, field 8 0 4, field 9 8 4, field 9 0 5, field 10 8 8, bit 10 6,
    bit 10 5, field 10 0 5, fun n _ => field (11 + n) 0 13, field 16 8 5, field 16 0 5, field 17 8 5, field 17 0 5, oct,
    fun k _ => ⟨common (0x2000 + 4 * k) 8 4, common (0x2000 + 4 * k) 0 5⟩, commonBit 0x2800 15, commonBit 0x2800 9,
    commonBit 0x2800 8, common 0x2800 4 4, common 0x2800 0 4, commonBit 0x280C 14, common 0x280C 8 6, format⟩

end Sys2Proof.Machine

/-! Family 40_adpcm.md: the decoder and the sixteen code rows. -/

namespace Sys2Proof.Machine

/-- The order of the two bounds of a clip does not matter, since the lower one is below the upper one. -/
theorem clip16_eq (v : Int) : clip16 v = max (-32768) (min 32767 v) := by
  unfold clip16 clamp
  omega

/-- The magnitude with its shift as a floored division (40_adpcm.md R122). -/
theorem adpcmMagnitude_eq (m q : Nat) : adpcmMagnitude m q = min (q * (2 * m + 1) / 8) 0x7FFF := by
  rw [adpcmMagnitude, Nat.shiftRight_eq_div_pow]

/-- The adapted step with its shift as a floored division (40_adpcm.md R125). -/
theorem adpcmNextStep_eq (m q : Nat) : adpcmNextStep m q = max 0x7F (min 0x6000 (q * adpcmQs m / 256)) := by
  rw [adpcmNextStep, Nat.shiftRight_eq_div_pow]
  omega

/-- The low three bits of a code are its magnitude index m, the top bit its sign (40_adpcm.md R122, R124). -/
theorem adpcmCode_fields (c : BitVec 4) : (c.extractLsb' 0 3).toNat = c.toNat % 8 ∧ c.getLsbD 3 = decide (8 ≤ c.toNat) := by
  revert c
  decide

/-- The decoder in the number of the code, each clamp and floor written out (40_adpcm.md R122 to R125). -/
theorem adpcmDecode_eq (c : BitVec 4) (prev : Int) (q : Nat) :
    adpcmDecode c prev q =
      (let d : Nat := min (q * (2 * (c.toNat % 8) + 1) / 8) 0x7FFF
       max (-32768) (min 32767 (if 8 ≤ c.toNat then prev - d else prev + d)),
       max 0x7F (min 0x6000 (q * adpcmQs (c.toNat % 8) / 256))) := by
  obtain ⟨hm, hsign⟩ := adpcmCode_fields c
  simp only [adpcmDecode, hm, hsign, decide_eq_true_eq, clip16_eq, adpcmMagnitude_eq, adpcmNextStep_eq]
  split <;> rfl

/-- Settles O17: the two halves of `adpcmDecode_eq`. -/
theorem adpcmDecodeMeetsItsRules : Obligations.AdpcmDecodeMeetsItsRules := fun c prev q =>
  Prod.ext_iff.mp (adpcmDecode_eq c prev q)

/-- The row of code `c` runs the decoder on `c`, on the channel being processed. -/
theorem exec_decodeAdpcm (c : BitVec 4) (s : State) : exec (decodeAdpcm c.toNat) s = .next (s.adpcmUnit c) := by
  obtain ⟨n, hn⟩ := c
  interval_cases n <;> rfl

theorem State.adpcmUnit_committed {s : State} (h : s.inp.lookahead = false) (c : BitVec 4) :
    s.adpcmUnit c = s.setChan s.inp.channel ((s.chan s.inp.channel).adpcmCommit c) := by
  simp [State.adpcmUnit, h]

theorem State.adpcmUnit_lookahead {s : State} (h : s.inp.lookahead = true) (c : BitVec 4) :
    s.adpcmUnit c = s.setChan s.inp.channel ((s.chan s.inp.channel).adpcmLookahead c) := by
  simp [State.adpcmUnit, h]

/-- Settles O18: a row's code is its sign bit above its three magnitude bits, and the row commits what the decoder gives for it. -/
theorem committedAdpcmCodesDecode : Obligations.CommittedAdpcmCodesDecode := by
  intro s hs row hrow
  obtain ⟨c, hi, hm, hsign⟩ : ∃ c : BitVec 4, row.1 = decodeAdpcm c.toNat ∧ c.toNat % 8 = row.2.1 ∧
      (8 ≤ c.toNat ↔ row.2.2 = true) := by
    refine ⟨BitVec.ofBool row.2.2 ++ BitVec.ofNat 3 row.2.1, ?_⟩
    revert row
    decide
  rw [hi, exec_decodeAdpcm, State.adpcmUnit_committed hs, Channel.adpcmCommit, adpcmDecode_eq, hm]
  simp only [hsign]
  push_cast
  rfl

/-- Settles O19: the row of each code runs the lookahead decode of that code, which leaves every field but s1 as it is. -/
theorem lookaheadAdpcmCodesOnlyFillS1 : Obligations.LookaheadAdpcmCodesOnlyFillS1 := by
  intro s hs row hrow
  have hi : row.1 = decodeAdpcm row.2.toNat := by
    revert row
    decide
  rw [hi, exec_decodeAdpcm, State.adpcmUnit_lookahead hs, Channel.adpcmLookahead]

/-- The 0x7FFF clamp acts exactly when the product has reached 0x8000 eighths. -/
theorem adpcmMagnitude_ne_iff (m q : Nat) : adpcmMagnitude m q ≠ q * (2 * m + 1) / 8 ↔ 0x8000 * 8 ≤ q * (2 * m + 1) := by
  rw [adpcmMagnitude_eq]
  omega

theorem adpcmNextStep_eq_lower_iff {m f : Nat} (hf : adpcmQs m = f) (q : Nat) :
    adpcmNextStep m q = 0x7F ↔ q * f < 0x80 * 256 := by
  rw [adpcmNextStep_eq, hf]
  omega

theorem adpcmNextStep_eq_upper_iff {m f : Nat} (hf : adpcmQs m = f) (q : Nat) :
    adpcmNextStep m q = 0x6000 ↔ 0x6000 * 256 ≤ q * f := by
  rw [adpcmNextStep_eq, hf]
  omega

/-- The four smallest magnitude indices share one step factor (40_adpcm.md R121). -/
theorem adpcmQs_of_le_three {m : Nat} (hm : m ≤ 3) : adpcmQs m = 230 := by
  interval_cases m <;> rfl

/-- Settles O20: each threshold is where a product with q reaches a clamp's bound, and for m up to 4 even the largest step stays
under the bound of the magnitude. -/
theorem adpcmCornerCases : Obligations.AdpcmCornerCases := by
  intro q _ hq
  have magnitude_unclamped : ∀ m, m ≤ 4 → adpcmMagnitude m q = q * (2 * m + 1) / 8 := by
    intro m hm
    by_contra hne
    have reached : 0x8000 * 8 ≤ q * (2 * m + 1) := (adpcmMagnitude_ne_iff m q).mp hne
    have most : q * (2 * m + 1) ≤ 0x6000 * 9 := Nat.mul_le_mul hq (by omega)
    omega
  have upper {m f : Nat} (hf : adpcmQs m = f) := adpcmNextStep_eq_upper_iff hf q
  exact ⟨magnitude_unclamped, (adpcmMagnitude_ne_iff 5 q).trans (by omega), (adpcmMagnitude_ne_iff 6 q).trans (by omega),
    (adpcmMagnitude_ne_iff 7 q).trans (by omega),
    fun _ hm => (adpcmNextStep_eq_lower_iff (adpcmQs_of_le_three hm) q).trans (by omega),
    (upper (f := 307) rfl).trans (by omega), (upper (f := 409) rfl).trans (by omega),
    (upper (f := 512) rfl).trans (by omega), (upper (f := 614) rfl).trans (by omega)⟩

end Sys2Proof.Machine

/-! Family 41_stream.md: the fetch of each format, written out, and key-on, which is the fetch at address 0. -/

namespace Sys2Proof.Machine

section
variable {ln : Lane} (ch : Channel) (a : Nat) (last : Bool)

theorem Channel.fetch_of_pcm16 (hf : ln.format = .pcm16) : ch.fetch ln a last =
    { ch with
      s0 := if last then ln.pcm16Sample a else ch.s0
      s1 := if last then ln.pcm16Sample (a + 1) else ch.s1 } := by
  rw [Channel.fetch, hf]
  cases last <;> rfl

theorem Channel.fetch_of_pcm8 (hf : ln.format = .pcm8) : ch.fetch ln a last =
    { ch with
      s0 := if last then ln.pcm8Sample a else ch.s0
      s1 := if last then ln.pcm8Sample (a + 1) else ch.s1 } := by
  rw [Channel.fetch, hf]
  cases last <;> rfl

/-- Both ADPCM formats run the one ADPCM fetch (R163), which commits its code on every increment (R162). -/
theorem Channel.fetch_of_adpcm (hf : ln.format = .adpcm ∨ ln.format = .adpcmStream) : ch.fetch ln a last =
    (let r := adpcmDecode (ln.adpcmCode a) ch.s0 ch.q
     { ch with
       s0 := r.1
       q := r.2
       s1 := if last then (adpcmDecode (ln.adpcmCode (a + 1)) r.1 r.2).1 else ch.s1 }) := by
  have hfetch : ch.fetch ln a last = ch.fetchAdpcm ln a last := by
    rcases hf with hf | hf <;> rw [Channel.fetch, hf]
  rw [hfetch, Channel.fetchAdpcm_eq]
  cases last <;> rfl

theorem Channel.fetch_of_noise (hf : ln.format = .noise) : ch.fetch ln a last =
    { ch with
      noise := if last then noiseNext ch.noise else ch.noise
      s0 := if last then noiseSample (noiseNext ch.noise) else ch.s0
      s1 := if last then noiseSample (noiseNext (noiseNext ch.noise)) else ch.s1 } := by
  rw [Channel.fetch, hf]
  cases last <;> simp [Channel.fetchNoise]

end

theorem Channel.keyOn_of_ne_release {ch : Channel} (h : ch.aegState ≠ .release) (ln : Lane) : ch.keyOn ln = ch :=
  if_neg h

theorem Channel.keyOn_of_release {ch : Channel} (h : ch.aegState = .release) (ln : Lane) :
    ch.keyOn ln = Channel.fetch (Channel.adpcmReset
      { ch with enabled := true, aegState := .attack, aegFp := aegKeyonValue * 2 ^ aegStepBits, fegState := .attack,
                ca := 0, frac := 0, looped := false }) ln 0 true :=
  if_pos h

/-- Settles O42: the initial fetch is that of a last increment at address 0, on a channel with a reset decoder. -/
theorem keyOnRestartsAReleasedChannel : Obligations.KeyOnRestartsAReleasedChannel := by
  intro ch ln
  refine ⟨fun h => Channel.keyOn_of_ne_release h ln, fun h => ?_⟩
  intro base
  have hkey : ch.keyOn ln = base.fetch ln 0 true := Channel.keyOn_of_release h ln
  rw [hkey]
  exact ⟨base.fetch_of_pcm16 0 true, base.fetch_of_pcm8 0 true, base.fetch_of_adpcm 0 true,
    by simpa only [if_true] using base.fetch_of_noise 0 true⟩

end Sys2Proof.Machine

/-! Family 41_stream.md: one increment, as the move to the next address and the fetch there. -/

namespace Sys2Proof.Machine

variable {ch : Channel} {ln : Lane}

/-- The loop-end test with the rounding of R157 as a division. -/
theorem Lane.loopEnd_iff (ln : Lane) (ca : Nat) :
    ln.loopEnd ca = true ↔ ln.lea.toNat ≤ if ln.format = .adpcmStream then ca / 4 * 4 else ca := by
  have hround : ca - ca % 4 = ca / 4 * 4 := by omega
  rw [Lane.loopEnd, decide_eq_true_eq, Lane.compareAddr, hround]

/-- The rounding of R157 only goes down. -/
theorem Lane.not_loopEnd_of_lt {ca : Nat} (h : ca < ln.lea.toNat) : ¬ln.loopEnd ca = true := by
  rw [Lane.loopEnd_iff]
  split <;> omega

/-- Whether a loop end starts the decoder afresh: on a looping one-shot ADPCM channel, with the switch set (R156). -/
def Lane.decoderReset (ln : Lane) : Bool :=
  ln.lpctl && ln.cfg.adpcmLoopReset && decide (ln.format = .adpcm)

theorem Lane.decoderReset_of_ne_adpcm (hf : ln.format ≠ .adpcm) : ln.decoderReset = false := by
  simp [Lane.decoderReset, hf]

/-- A channel after the part of an increment that comes before its fetch: the link, the loop end and the new address. -/
def Channel.arrive (ch : Channel) (ln : Lane) : Channel :=
  if ln.loopEnd (ch.ca + 1) then { (ch.link ln (ch.ca + 1)).hitLoopEnd ln with ca := ln.lsa.toNat }
  else { ch.link ln (ch.ca + 1) with ca := ch.ca + 1 }

theorem Channel.arrive_of_loopEnd (h : ln.loopEnd (ch.ca + 1) = true) :
    ch.arrive ln = { (ch.link ln (ch.ca + 1)).hitLoopEnd ln with ca := ln.lsa.toNat } :=
  if_pos h

theorem Channel.arrive_of_not_loopEnd (h : ¬ln.loopEnd (ch.ca + 1) = true) :
    ch.arrive ln = { ch.link ln (ch.ca + 1) with ca := ch.ca + 1 } :=
  if_neg h

/-- An increment fetches at the address it arrives at (R152). -/
theorem Channel.streamCross_eq_fetch (ch : Channel) (ln : Lane) (last : Bool) :
    ch.streamCross ln last = (ch.arrive ln).fetch ln (ch.arrive ln).ca last := by
  by_cases h : ln.loopEnd (ch.ca + 1) = true
  · rw [Channel.arrive_of_loopEnd h]
    exact if_pos h
  · rw [Channel.arrive_of_not_loopEnd h]
    exact if_neg h

/-! What a loop end does to the channel (R155, R156). -/

theorem Channel.hitLoopEnd_of_lpctl_clear (h : ln.lpctl = false) :
    ch.hitLoopEnd ln = Channel.disable { ch with looped := true } := by
  simp [Channel.hitLoopEnd, h]

theorem Channel.hitLoopEnd_of_lpctl (h : ln.lpctl = true) :
    ch.hitLoopEnd ln =
      if ln.cfg.adpcmLoopReset && decide (ln.format = .adpcm) then Channel.adpcmReset { ch with looped := true }
      else { ch with looped := true } := by
  simp [Channel.hitLoopEnd, h, and_comm]

theorem Channel.hitLoopEnd_keeps_envelope (h : ln.lpctl = true) :
    (ch.hitLoopEnd ln).enabled = ch.enabled ∧ (ch.hitLoopEnd ln).aegState = ch.aegState ∧
      (ch.hitLoopEnd ln).aegFp = ch.aegFp := by
  rw [Channel.hitLoopEnd_of_lpctl h]
  split <;> exact ⟨rfl, rfl, rfl⟩

theorem Channel.hitLoopEnd_decoder (ch : Channel) (ln : Lane) :
    (ch.hitLoopEnd ln).s0 = (if ln.decoderReset then 0 else ch.s0) ∧
      (ch.hitLoopEnd ln).q = if ln.decoderReset then 0x7F else ch.q := by
  unfold Lane.decoderReset
  cases h : ln.lpctl with
  | false =>
    rw [Channel.hitLoopEnd_of_lpctl_clear h]
    exact ⟨rfl, rfl⟩
  | true =>
    rw [Channel.hitLoopEnd_of_lpctl h, Bool.true_and]
    split <;> exact ⟨rfl, rfl⟩

/-! The channel that arrives: its address, its decoder, and the fields that the fetch writes and the move does not. -/

theorem Channel.arrive_ca (ch : Channel) (ln : Lane) :
    (ch.arrive ln).ca = if ln.loopEnd (ch.ca + 1) then ln.lsa.toNat else ch.ca + 1 := by
  unfold Channel.arrive
  split <;> rfl

theorem Channel.arrive_s1 (ch : Channel) (ln : Lane) : (ch.arrive ln).s1 = ch.s1 := by
  unfold Channel.arrive
  split <;> simp

theorem Channel.arrive_noise (ch : Channel) (ln : Lane) : (ch.arrive ln).noise = ch.noise := by
  unfold Channel.arrive
  split <;> simp

theorem Channel.arrive_decoder (ch : Channel) (ln : Lane) :
    (ch.arrive ln).s0 = (if ln.decoderReset && ln.loopEnd (ch.ca + 1) then 0 else ch.s0) ∧
      (ch.arrive ln).q = if ln.decoderReset && ln.loopEnd (ch.ca + 1) then 0x7F else ch.q := by
  by_cases h : ln.loopEnd (ch.ca + 1) = true
  · obtain ⟨hs0, hq⟩ := (ch.link ln (ch.ca + 1)).hitLoopEnd_decoder ln
    rw [Channel.arrive_of_loopEnd h, h, Bool.and_true]
    exact ⟨hs0.trans (by rw [Channel.link_s0]), hq.trans (by rw [Channel.link_q])⟩
  · simp [Channel.arrive_of_not_loopEnd h, h]

/-- Outside the one-shot ADPCM format no increment resets the decoder (R156), so that only a fetch writes the samples. -/
theorem Channel.arrive_samples_of_ne_adpcm (hf : ln.format ≠ .adpcm) (ch : Channel) :
    (ch.arrive ln).s0 = ch.s0 ∧ (ch.arrive ln).s1 = ch.s1 ∧ (ch.arrive ln).q = ch.q ∧ (ch.arrive ln).noise = ch.noise := by
  obtain ⟨hs0, hq⟩ := ch.arrive_decoder ln
  rw [Lane.decoderReset_of_ne_adpcm hf, Bool.false_and] at hs0 hq
  exact ⟨hs0, ch.arrive_s1 ln, hq, ch.arrive_noise ln⟩

/-! An increment at the loop end and below it, in the fields that its fetch leaves alone. -/

theorem Channel.streamCross_of_loopEnd (hend : ln.loopEnd (ch.ca + 1) = true) (last : Bool) :
    (ch.streamCross ln last).looped = true ∧ (ch.streamCross ln last).ca = ln.lsa.toNat := by
  simp [Channel.streamCross_eq_fetch, Channel.arrive_of_loopEnd hend]

theorem Channel.streamCross_disables (hend : ln.loopEnd (ch.ca + 1) = true) (hloop : ln.lpctl = false) (last : Bool) :
    (ch.streamCross ln last).enabled = false ∧ (ch.streamCross ln last).aegState = .release ∧
      (ch.streamCross ln last).aegFp = aegMax := by
  simp [Channel.streamCross_eq_fetch, Channel.arrive_of_loopEnd hend, Channel.hitLoopEnd_of_lpctl_clear hloop]

/-- An increment that does not disable the channel keeps its envelope, but for the link (R153, R155). -/
theorem Channel.streamCross_envelope (h : ln.lpctl = true ∨ ¬ln.loopEnd (ch.ca + 1) = true) (last : Bool) :
    (ch.streamCross ln last).enabled = ch.enabled ∧
      (ch.streamCross ln last).aegState = (ch.link ln (ch.ca + 1)).aegState ∧
      (ch.streamCross ln last).aegFp = ch.aegFp := by
  by_cases hend : ln.loopEnd (ch.ca + 1) = true
  · have hloop : ln.lpctl = true := h.resolve_right (not_not_intro hend)
    simp [Channel.streamCross_eq_fetch, Channel.arrive_of_loopEnd hend, Channel.hitLoopEnd_keeps_envelope hloop]
  · simp [Channel.streamCross_eq_fetch, Channel.arrive_of_not_loopEnd hend]

theorem Channel.streamCross_of_not_loopEnd (hend : ¬ln.loopEnd (ch.ca + 1) = true) (last : Bool) :
    (ch.streamCross ln last).looped = ch.looped ∧ (ch.streamCross ln last).ca = ch.ca + 1 ∧
      (ch.streamCross ln last).enabled = ch.enabled ∧ (ch.streamCross ln last).aegFp = ch.aegFp := by
  simp [Channel.streamCross_eq_fetch, Channel.arrive_of_not_loopEnd hend]

theorem Channel.link_aegState (ch : Channel) (ln : Lane) (ca : Nat) :
    (ch.link ln ca).aegState =
      if ln.lpslnk = true ∧ ch.aegState = .attack ∧ ln.lsa.toNat ≤ ca then .decay1 else ch.aegState := by
  simp only [Channel.link, Lane.linkHit, Bool.and_eq_true, decide_eq_true_eq, and_assoc]
  split <;> rfl

/-- Settles O24: below the loop end, or with LPCTL, only the link touches the envelope. -/
theorem loopStartLinkOfAnIncrement : Obligations.LoopStartLinkOfAnIncrement := by
  intro ch ln last cmp t hkeep
  have hcross : ln.lpctl = true ∨ ¬ln.loopEnd (ch.ca + 1) = true :=
    hkeep.imp_right fun hbelow hend => Nat.not_le_of_lt hbelow ((ln.loopEnd_iff _).mp hend)
  obtain ⟨_, hstate, hvalue⟩ := Channel.streamCross_envelope hcross last
  exact ⟨hvalue, hstate.trans (ch.link_aegState ln _)⟩

/-- Settles O23: the increment arrives at `a` with the decoder at (0, 0x7F) or at (s0, q), and the format's fetch at `a` does the
rest. -/
theorem loopEndOfAnIncrement : Obligations.LoopEndOfAnIncrement := by
  intro ch ln last cmp t a fresh r
  have hend : ln.loopEnd (ch.ca + 1) = true ↔ ln.lea.toNat ≤ cmp := ln.loopEnd_iff _
  have ha : (ch.arrive ln).ca = a := by
    rw [Channel.arrive_ca]
    simp only [hend, a]
  have hfetch : t = (ch.arrive ln).fetch ln a last := ha ▸ ch.streamCross_eq_fetch ln last
  have hfresh : (ln.decoderReset && ln.loopEnd (ch.ca + 1)) = fresh := by
    rw [Lane.decoderReset, Bool.eq_iff_iff.mpr (hend.trans decide_eq_true_iff.symm)]
  refine ⟨fun h => ?atEnd, fun h => ?below, fun hf => ?pcm16, fun hf => ?pcm8, fun hf => ?adpcm, fun hf => ?noise,
    ch.streamCross_frac ln last, ch.streamCross_fegState ln last, ch.streamCross_lfoCounter ln last,
    ch.streamCross_lfoPhase ln last, ch.streamCross_alfo ln last, ch.streamCross_plfo ln last⟩
  case atEnd =>
    have hit := hend.mpr h
    obtain ⟨hlooped, hca⟩ := Channel.streamCross_of_loopEnd hit last
    refine ⟨hlooped, hca, fun hloop => Channel.streamCross_disables hit hloop last, fun hloop => ?_⟩
    obtain ⟨henabled, _, hvalue⟩ := Channel.streamCross_envelope (.inl hloop) last
    exact ⟨henabled, hvalue⟩
  case below => exact Channel.streamCross_of_not_loopEnd (fun hit => Nat.not_le_of_lt h (hend.mp hit)) last
  case pcm16 =>
    obtain ⟨hs0, hs1, hq, hnoise⟩ := ch.arrive_samples_of_ne_adpcm (ln := ln) (by simp [hf])
    rw [hfetch, Channel.fetch_of_pcm16 _ a last hf, hs0, hs1]
    exact ⟨hq, hnoise, rfl, rfl⟩
  case pcm8 =>
    obtain ⟨hs0, hs1, hq, hnoise⟩ := ch.arrive_samples_of_ne_adpcm (ln := ln) (by simp [hf])
    rw [hfetch, Channel.fetch_of_pcm8 _ a last hf, hs0, hs1]
    exact ⟨hq, hnoise, rfl, rfl⟩
  case adpcm =>
    obtain ⟨hs0, hq⟩ := ch.arrive_decoder ln
    rw [hfetch, Channel.fetch_of_adpcm _ a last hf, hs0, hq, hfresh, ch.arrive_s1]
    exact ⟨ch.arrive_noise ln, rfl, rfl, rfl⟩
  case noise =>
    obtain ⟨hs0, hs1, hq, hnoise⟩ := ch.arrive_samples_of_ne_adpcm (ln := ln) (by simp [hf])
    rw [hfetch, Channel.fetch_of_noise _ a last hf, hs0, hs1, hnoise]
    exact ⟨hq, rfl, rfl, rfl⟩

end Sys2Proof.Machine

/-! Family 41_stream.md: the run of increments of a stream step, and the interpolator. -/

namespace Sys2Proof.Machine

/-- A run is its increments in order, of which only the final one is marked last (R152). -/
theorem Channel.streamRun_succ_eq_iterate (ch : Channel) (ln : Lane) (n : Nat) :
    ch.streamRun ln (n + 1) = ((fun x : Channel => x.streamCross ln false)^[n] ch).streamCross ln true := by
  induction n generalizing ch with
  | zero => rfl
  | succ n ih =>
    rw [Function.iterate_succ_apply, ← ih]
    rfl

/-- A run that stays below LEA moves CA by its increments and leaves the flags and the envelope value (R154). -/
theorem Channel.streamRun_below {ln : Lane} {n : Nat} {ch : Channel} (h : ch.ca + n < ln.lea.toNat) :
    (ch.streamRun ln n).ca = ch.ca + n ∧ (ch.streamRun ln n).enabled = ch.enabled ∧
      (ch.streamRun ln n).looped = ch.looped ∧ (ch.streamRun ln n).aegFp = ch.aegFp := by
  induction n generalizing ch with
  | zero => exact ⟨rfl, rfl, rfl, rfl⟩
  | succ n ih =>
    have hbelow : ¬ln.loopEnd (ch.ca + 1) = true := Lane.not_loopEnd_of_lt (by omega)
    obtain ⟨hlooped, hca, henabled, hvalue⟩ := Channel.streamCross_of_not_loopEnd hbelow (decide (n = 0))
    obtain ⟨ihca, ihenabled, ihlooped, ihvalue⟩ := ih (by rw [hca]; omega)
    exact ⟨ihca.trans (by omega), ihenabled.trans henabled, ihlooped.trans hlooped, ihvalue.trans hvalue⟩

/-- The stream step with its shift and its 10-bit fraction as a quotient and a remainder (R151). -/
theorem Channel.streamStep_eq_run (ch : Channel) (ln : Lane) :
    ch.streamStep ln =
      Channel.streamRun { ch with frac := BitVec.ofNat 10 ((ch.frac.toNat + ln.updateRate) % 1024) } ln
        ((ch.frac.toNat + ln.updateRate) / 1024) := by
  have hfrac : ∀ n, BitVec.ofNat 10 (n % 1024) = BitVec.ofNat 10 n := fun n => BitVec.eq_of_toNat_eq (by simp)
  rw [hfrac]
  rw [Channel.streamStep, Nat.shiftRight_eq_div_pow]

/-- Settles O22: the run keeps the fraction, and quotient and remainder of the sum make up the new position. -/
theorem positionAdvancesByTheUpdateRate : Obligations.PositionAdvancesByTheUpdateRate := by
  intro ch ln acc start
  have hrun : ch.streamStep ln = start.streamRun ln (acc / 1024) := ch.streamStep_eq_run ln
  rw [hrun]
  constructor
  · cases acc / 1024 with
    | zero => rfl
    | succ n => exact start.streamRun_succ_eq_iterate ln n
  · intro hbelow
    obtain ⟨hca, henabled, hlooped, hvalue⟩ := Channel.streamRun_below (ch := start) hbelow
    have hfrac : start.frac.toNat = acc % 1024 := by simp [start]
    refine ⟨?_, henabled, hlooped, hvalue⟩
    rw [hca, Channel.streamRun_frac, hfrac]
    have hstart : start.ca = ch.ca := rfl
    omega

/-! A weighted mean lies between any bounds of the two numbers; the weights are the ones of R170. -/

theorem mul_le_weighted_sum {m x y f : Int} (hx : m ≤ x) (hy : m ≤ y) (h0 : 0 ≤ f) (h1 : f ≤ 1024) :
    m * 1024 ≤ x * (1024 - f) + y * f := by
  have hw : 0 ≤ 1024 - f := by omega
  calc m * 1024 = m * (1024 - f) + m * f := by ring
    _ ≤ x * (1024 - f) + y * f := by gcongr

theorem weighted_sum_le_mul {m x y f : Int} (hx : x ≤ m) (hy : y ≤ m) (h0 : 0 ≤ f) (h1 : f ≤ 1024) :
    x * (1024 - f) + y * f ≤ m * 1024 := by
  have hw : 0 ≤ 1024 - f := by omega
  calc x * (1024 - f) + y * f ≤ m * (1024 - f) + m * f := by gcongr
    _ = m * 1024 := by ring

/-- Settles O26: the weighted sum of the two samples is bounded before it is divided. -/
theorem interpolationStaysBetweenItsSamples : Obligations.InterpolationStaysBetweenItsSamples := by
  intro ch
  have hinterp : ch.interp = (ch.s0 * (1024 - (ch.frac.toNat : Int)) + ch.s1 * (ch.frac.toNat : Int)) / 1024 := rfl
  have h0 : (0 : Int) ≤ ch.frac.toNat := Int.natCast_nonneg _
  have h1 : (ch.frac.toNat : Int) ≤ 1024 := by have := ch.frac.isLt; omega
  have lower := mul_le_weighted_sum (min_le_left ch.s0 ch.s1) (min_le_right ch.s0 ch.s1) h0 h1
  have upper := weighted_sum_le_mul (le_max_left ch.s0 ch.s1) (le_max_right ch.s0 ch.s1) h0 h1
  refine ⟨hinterp, ?_, ?_⟩ <;> rw [hinterp]
  · exact Int.le_ediv_of_mul_le (by decide) lower
  · exact Int.ediv_le_of_le_mul (by decide) upper

end Sys2Proof.Machine

/-! Family 42_envelope.md: each envelope step as one equation, in the numbers of R186 to R192. -/

namespace Sys2Proof.Machine

variable {ch : Channel} {ln : Lane}

theorem Channel.attackStep_eq (hs : ch.aegState = .attack) (ln : Lane) : ch.attackStep ln =
    if ch.aegFp < ln.attackRate + 65536 then { ch with aegFp := 0, aegState := if ln.lpslnk then .attack else .decay1 }
    else { ch with aegFp := ch.aegFp - ln.attackRate } := by
  unfold Channel.attackStep
  simp only [asr_aegStepBits_nonpos_iff, hs]
  by_cases h : ch.aegFp < ln.attackRate + 65536
  · rw [if_pos (by omega), if_pos h]
  · have hv : ((ch.aegFp : Int) - ln.attackRate).toNat = ch.aegFp - ln.attackRate := by omega
    rw [if_neg (by omega), if_neg h, hv]

theorem Channel.decay1Step_eq (ch : Channel) (ln : Lane) : ch.decay1Step ln =
    if ln.dl.toNat * 32 ≤ min (ch.aegFp + ln.decay1Rate) aegMax / 65536 then
      { ch with aegFp := min (ch.aegFp + ln.decay1Rate) aegMax,
                aegState := if ln.cfg.hackD1D2 = true ∧ ln.dl.toNat = 0 then .attack else .decay2 }
    else { ch with aegFp := min (ch.aegFp + ln.decay1Rate) aegMax } := by
  have hdl : ln.dl = 0 ↔ ln.dl.toNat = 0 := BitVec.toNat_eq
  unfold Channel.decay1Step
  simp only [Nat.shiftRight_eq_div_pow, hdl]
  rfl

theorem Channel.decay2Step_eq (ch : Channel) (ln : Lane) : ch.decay2Step ln =
    if aegMax ≤ ch.aegFp + ln.decay2Rate then { ch with aegFp := aegMax, aegState := .release }
    else { ch with aegFp := ch.aegFp + ln.decay2Rate } := by
  unfold Channel.decay2Step
  simp only [le_shiftRight_aegStepBits_iff]

theorem Channel.releaseStep_eq (hs : ch.aegState = .release) (ln : Lane) : ch.releaseStep ln =
    if aegMax ≤ ch.aegFp + ln.releaseRate then { ch with aegFp := aegMax, enabled := false }
    else { ch with aegFp := ch.aegFp + ln.releaseRate } := by
  unfold Channel.releaseStep Channel.disable
  simp only [le_shiftRight_aegStepBits_iff, hs]

/-! The step of a state is the one its row names (R180). -/

theorem Channel.aegStep_of_attack (hs : ch.aegState = .attack) (ln : Lane) : ch.aegStep ln = ch.attackStep ln := by
  rw [Channel.aegStep, hs]

theorem Channel.aegStep_of_decay1 (hs : ch.aegState = .decay1) (ln : Lane) : ch.aegStep ln = ch.decay1Step ln := by
  rw [Channel.aegStep, hs]

theorem Channel.aegStep_of_decay2 (hs : ch.aegState = .decay2) (ln : Lane) : ch.aegStep ln = ch.decay2Step ln := by
  rw [Channel.aegStep, hs]

theorem Channel.aegStep_of_release (hs : ch.aegState = .release) (ln : Lane) : ch.aegStep ln = ch.releaseStep ln := by
  rw [Channel.aegStep, hs]

/-- A row runs the envelope step of an enabled channel that is in the row's state (notes/assumptions/8.md). -/
theorem State.aegUnit_selected {s : State} {st : EgState} (he : (s.chan s.inp.channel).enabled = true)
    (hs : (s.chan s.inp.channel).aegState = st) :
    s.aegUnit st = s.setChan s.inp.channel ((s.chan s.inp.channel).aegStep (s.lane s.inp.channel)) :=
  if_pos ⟨he, hs⟩

/-- Settles O27: the row runs the step of the channel's state, and each state's step is one equation. -/
theorem envelopeRowsStepTheirState : Obligations.EnvelopeRowsStepTheirState := by
  intro s c ch ln top he
  have row {st : EgState} {next : Channel} (hs : ch.aegState = st) (hstep : ch.aegStep ln = next) :
      Host.Outcome.next (s.aegUnit st) = (.next (s.setChan c next) : Host.Outcome State Fault Refusal) := by
    rw [State.aegUnit_selected he hs, ← hstep]
  exact ⟨fun hs => row hs ((Channel.aegStep_of_attack hs ln).trans (Channel.attackStep_eq hs ln)),
    fun hs => row hs ((Channel.aegStep_of_decay1 hs ln).trans (ch.decay1Step_eq ln)),
    fun hs => row hs ((Channel.aegStep_of_decay2 hs ln).trans (ch.decay2Step_eq ln)),
    fun hs => row hs ((Channel.aegStep_of_release hs ln).trans (Channel.releaseStep_eq hs ln))⟩

/-! A channel in Release stays there, and what its steps still have to cover shrinks by the rate (R189). -/

theorem Channel.releaseStep_aegState (hs : ch.aegState = .release) (ln : Lane) : (ch.releaseStep ln).aegState = .release := by
  rcases ch.releaseStep_cases ln with e | e <;> rw [e]
  · rfl
  · exact hs

theorem Channel.releaseStep_disables (hs : ch.aegState = .release) (h : aegMax ≤ ch.aegFp + ln.releaseRate) :
    (ch.releaseStep ln).enabled = false := by
  rw [Channel.releaseStep_eq hs, if_pos h]

/-- Settles O32, by induction on the number of steps: all but the last one shorten the distance to the silent end by the rate, or
have covered it. -/
theorem releaseEndsInTime : Obligations.ReleaseEndsInTime := by
  intro ch ln n hs hn hcover
  change aegMax ≤ _ at hcover
  induction n, hn using Nat.le_induction generalizing ch with
  | base =>
    rw [Nat.one_mul] at hcover
    rw [Function.iterate_one, Channel.aegStep_of_release hs]
    exact Channel.releaseStep_disables hs hcover
  | succ n _ ih =>
    rw [Function.iterate_succ_apply, Channel.aegStep_of_release hs]
    refine ih _ (Channel.releaseStep_aegState hs ln) ?_
    rw [Channel.releaseStep_aegFp]
    rw [Nat.succ_mul] at hcover
    omega

/-! The effective rate, with the fields of R182 as numbers. -/

theorem topBit_eq_toNat_div (x : BitVec 10) : (if x.getLsbD 9 then 1 else 0 : Int) = (x.toNat / 512 : Nat) := by
  have hx := x.isLt
  rw [BitVec.getLsbD, Nat.testBit_eq_decide_div_mod_eq]
  simp only [decide_eq_true_eq]
  split <;> omega

theorem Lane.effRate_lt (ln : Lane) (re : BitVec 5) : ln.effRate re < 64 := by
  unfold Lane.effRate clamp
  dsimp only
  omega

theorem Lane.effRate_eq (ln : Lane) (re : BitVec 5) :
    (ln.effRate re : Int) = max 0 (min 63 (2 * (re.toNat : Int) + (if ln.krs.toNat = 15 then 0 else (ln.krs.toNat : Int)) +
      (ln.fns.toNat / 512 : Nat) + 2 * (if ln.oct.toNat < 8 then (ln.oct.toNat : Int) else (ln.oct.toNat : Int) - 16))) := by
  have hkrs : ln.krs = 15 ↔ ln.krs.toNat = 15 := BitVec.toNat_eq
  unfold Lane.effRate clamp
  simp only [topBit_eq_toNat_div, hkrs, toInt_of_four_bits]
  by_cases h : ln.krs.toNat = 15
  · simp only [h, if_true]
    omega
  · simp only [if_neg h]
    omega

/-- Settles O29: the fields of R182 as numbers; the four rates are the tables at the effective rate by definition (R185). -/
theorem effectiveRateFormula : Obligations.EffectiveRateFormula :=
  fun ln re => ⟨ln.effRate_eq re, ln.effRate_lt re, rfl, rfl, rfl, rfl⟩

theorem step_of_hackMix {s : State} (h : s.cfg.hackMix = true) : step s = .refused .hackMixUndefined := by
  have hrefusal : s.configRefusal = some .hackMixUndefined := if_pos h
  simp only [step, hrefusal, refuse]

/-- Settles O8: the configuration is looked at before the queue (R193, R332), and at reset it is the core one. -/
theorem hackMixConfigurationIsRefused : Obligations.HackMixConfigurationIsRefused :=
  ⟨fun _ h => step_of_hackMix h, rfl⟩

end Sys2Proof.Machine

/-! Family 43_lfo.md: the waveforms on numbers, and the LFO's operations as equations. -/

namespace Sys2Proof.Machine

/-- The depth's shift as a floored division (R222). -/
theorem lfoDepth_eq_ofNat (v : BitVec 8) (d : BitVec 3) : lfoDepth v d = BitVec.ofNat 8 (v.toNat / 2 ^ (8 - d.toNat)) := by
  rw [lfoDepth, ← Nat.shiftRight_eq_div_pow, ← BitVec.toNat_ushiftRight, BitVec.ofNat_toNat, BitVec.setWidth_eq]

theorem waveSquare_toNat (p : BitVec 8) : (waveSquare p).toNat = if 128 ≤ p.toNat then 255 else 0 := by
  unfold waveSquare
  split <;> rfl

/-- The triangle rises by 2 in the lower half of the phases and falls by 2 in the upper half (R225). -/
theorem waveTriangle_toNat (p : BitVec 8) :
    (waveTriangle p).toNat = if 128 ≤ p.toNat then 2 * (255 - p.toNat) else 2 * p.toNat := by
  revert p
  decide

theorem waveNoise_toNat (p : BitVec 8) :
    (waveNoise p).toNat = ((p.toNat / 8) ^^^ (p.toNat * 8) ^^^ (p.toNat &&& 0xE3)) % 256 := by
  have hmask : (waveNoise p).toNat = (p >>> 3 ^^^ p <<< 3 ^^^ (p &&& 0xE3)).toNat % 256 := Nat.and_two_pow_sub_one_eq_mod _ 8
  rw [hmask, BitVec.toNat_xor, BitVec.toNat_xor, BitVec.toNat_ushiftRight, BitVec.toNat_shiftLeft, BitVec.toNat_and,
    Nat.shiftRight_eq_div_pow, Nat.shiftLeft_eq]
  simp [Nat.xor_mod_two_pow (n := 8)]

theorem State.lfoUnit_amplitude {s : State} (h : s.inp.lfoOut = .amplitude) (w : BitVec 8 → BitVec 8) :
    s.lfoUnit w = s.setChan s.inp.channel { s.chan s.inp.channel with
      alfo := lfoDepth (w (s.chan s.inp.channel).lfoPhase) (s.lane s.inp.channel).alfos } := by
  rw [State.lfoUnit, h]

theorem State.lfoUnit_pitch {s : State} (h : s.inp.lfoOut = .pitch) (w : BitVec 8 → BitVec 8) :
    s.lfoUnit w = s.setChan s.inp.channel { s.chan s.inp.channel with
      plfo := lfoDepth (w (s.chan s.inp.channel).lfoPhase) (s.lane s.inp.channel).plfos } := by
  rw [State.lfoUnit, h]

/-- Settles O33: each row applies its waveform to the output the inputs name, and each waveform is a formula of the phase. -/
theorem waveformRowsRecomputeTheirOutput : Obligations.WaveformRowsRecomputeTheirOutput := by
  intro s c ch p
  have row {i : Instr} {w : BitVec 8 → BitVec 8} {n : Nat} (hx : exec i s = .next (s.lfoUnit w))
      (hw : (w ch.lfoPhase).toNat = n) :
      (s.inp.lfoOut = .amplitude → exec i s = .next (s.setChan c
        { ch with alfo := BitVec.ofNat 8 (n / 2 ^ (8 - (s.lane c).alfos.toNat)) })) ∧
      (s.inp.lfoOut = .pitch → exec i s = .next (s.setChan c
        { ch with plfo := BitVec.ofNat 8 (n / 2 ^ (8 - (s.lane c).plfos.toNat)) })) := by
    subst hw
    simp only [← lfoDepth_eq_ofNat]
    exact ⟨fun h => hx.trans (congrArg _ (State.lfoUnit_amplitude h w)),
      fun h => hx.trans (congrArg _ (State.lfoUnit_pitch h w))⟩
  simp only [List.forall_mem_cons]
  exact ⟨row (w := waveSaw) rfl rfl, row rfl (waveSquare_toNat _), row rfl (waveTriangle_toNat _),
    row rfl (waveNoise_toNat _), fun _ h => nomatch h⟩

/-! The LFO step: the counter counts down, and the step from 1 is the rollover (R221). -/

theorem Channel.lfoStep_of_one_lt {ch : Channel} (h : 1 < ch.lfoCounter) (ln : Lane) :
    ch.lfoStep ln = { ch with lfoCounter := ch.lfoCounter - 1 } :=
  if_neg (by omega)

theorem Channel.lfoStep_of_le_one {ch : Channel} (h : ch.lfoCounter ≤ 1) (ln : Lane) :
    ch.lfoStep ln = Channel.lfoRecompute { ch with lfoPhase := ch.lfoPhase + 1, lfoCounter := lfoStart ln.lfof } ln :=
  if_pos (by omega)

theorem Channel.lfoStep_iterate_below {ch : Channel} (ln : Lane) {k : Nat} (h : k < ch.lfoCounter) :
    (fun x : Channel => x.lfoStep ln)^[k] ch = { ch with lfoCounter := ch.lfoCounter - k } := by
  induction k with
  | zero => rfl
  | succ k ih =>
    rw [Function.iterate_succ_apply', ih (by omega), Channel.lfoStep_of_one_lt (by dsimp only; omega)]
    simp only [Nat.sub_sub]

/-- Settles O35: the steps before the last lower the counter to 1, and the last one is the rollover. -/
theorem lfoPeriodIsItsStartValue : Obligations.LfoPeriodIsItsStartValue := by
  intro ch ln hn
  refine ⟨fun k hk => Channel.lfoStep_iterate_below ln hk, ?_⟩
  obtain ⟨n, hcount⟩ : ∃ n, ch.lfoCounter = n + 1 := ⟨ch.lfoCounter - 1, by omega⟩
  rw [hcount, Function.iterate_succ_apply', Channel.lfoStep_iterate_below ln (by omega),
    Channel.lfoStep_of_le_one (by dsimp only; omega)]
  rfl

/-! The LFO update of a WRITE, and the whole WRITE to slot 7 (R229, R230). -/

/-- Without LFORE: the counter reloaded where the configuration says so, both outputs at the phase held. -/
theorem Channel.lfoWrite_false (ch : Channel) (ln : Lane) : ch.lfoWrite ln false =
    { ch with lfoCounter := if ln.cfg.lfoWriteReloads then lfoStart ln.lfof else ch.lfoCounter,
              alfo := lfoDepth (lfoWave ln.alfows ch.lfoPhase) ln.alfos,
              plfo := lfoDepth (lfoWave ln.plfows ch.lfoPhase) ln.plfos } := by
  unfold Channel.lfoWrite
  cases ln.cfg.lfoWriteReloads <;> rfl

/-- With LFORE: phase and counter reset, whatever the configuration says. -/
theorem Channel.lfoWrite_true (ch : Channel) (ln : Lane) : ch.lfoWrite ln true =
    { ch with lfoPhase := 0, lfoCounter := lfoStart ln.lfof,
              alfo := lfoDepth (lfoWave ln.alfows 0) ln.alfos,
              plfo := lfoDepth (lfoWave ln.plfows 0) ln.plfos } := by
  unfold Channel.lfoWrite
  cases ln.cfg.lfoWriteReloads <;> rfl

/-- A WRITE whose bytes the register space does not hold leaves it as it is (20_memory.md R66). -/
theorem storeBytes_eq_self {m : Memory} {a n : Nat} (d : Word) (h : ∀ i, i < n → byteStored (a + i) = false) :
    storeBytes m a d n = m := by
  induction n with
  | zero => rfl
  | succ n ih =>
    rw [storeBytes, storeByte, h n (Nat.lt_succ_self n), ih fun i hi => h i (Nat.lt_succ_of_lt hi)]
    rfl

/-- A WRITE to the upper half of a slot stores nothing and has no side effect (45_register_interface.md R293). -/
theorem hostWrite_upperHalf {z : Size} {a : Nat} (ha : a % z.bytes = 0) (hm : mapped a = true) (hup : 2 ≤ a % 4) (d : Word)
    (s : State) : hostWrite z a d s = .next s := by
  have hslot := aligned_in_slot ha
  have hkept : storeBytes s.regs a d z.bytes = s.regs := by
    refine storeBytes_eq_self d fun i hi => Bool.eq_false_of_not_eq_true fun hst => ?_
    have hlow := ((byteStored_iff _).1 hst).1
    omega
  rw [hostWrite_next d s ha hm, hkept]
  rcases s.sideEffects_cases z a d with ⟨-, -, hlow, -⟩ | ⟨-, -, ht, -⟩ | ⟨-, -, e⟩
  · omega
  · have hlow := ((topBitStored_iff _ _ _).1 ht).1
    omega
  · exact congrArg _ e

/-- An access at an aligned byte of a channel's slot is performed, at that byte of the slot. -/
theorem chOffset_access {z : Size} {b : BitVec 2} (hb : b.toNat % z.bytes = 0) (c : Chan) {k : Nat} (hk : k < 32) :
    chOffset c k b % z.bytes = 0 ∧ mapped (chOffset c k b) = true ∧ chOffset c k b % 4 = b.toNat := by
  obtain ⟨ha, hm, -⟩ := storedSlot_access (storedSlot_channel c hk) hb
  have hb4 := b.isLt
  exact ⟨ha, hm, by unfold chOffset; omega⟩

/-- The register space after the byte loop of a WRITE to a channel's slot: the bytes of the slot's lower half that it covers are
the data's (45_register_interface.md R291). -/
theorem read_storeBytes_chOffset (z : Size) (c : Chan) {k : Nat} (hk : k < 32) (b : BitVec 2) (m : Memory) (d : Word)
    (o : Nat) :
    (storeBytes m (chOffset c k b) d z.bytes).read o =
      if chOffset c k b ≤ o ∧ o < chOffset c k b + z.bytes ∧ o % 4 < 2 then dataByte d (o - chOffset c k b)
        else m.read o := by
  have hlt := chOffset_lt c b hk
  have hsize := Size.bytes_le z
  rw [read_storeBytes]
  refine if_congr ?_ rfl rfl
  rw [byteStored_iff]
  omega

/-- A WRITE that covers a byte of channel `c`'s slot 7: its bytes are stored, then the LFO is updated, as the data's LFORE says. -/
theorem hostWrite_lfo {z : Size} {b : BitVec 2} (hb : b.toNat % z.bytes = 0) (hlow : b.toNat < 2) (c : Chan) (d : Word)
    (s : State) :
    hostWrite z (chOffset c 7 b) d s =
      .next (State.lfoWriteAction { s with regs := storeBytes s.regs (chOffset c 7 b) d z.bytes } c
        (topBitWritten z b.toNat d)) := by
  obtain ⟨ha, hm, hbyte⟩ := chOffset_access hb c (k := 7) (by decide)
  obtain ⟨hc, hslot, -⟩ := chOffset_fields c b (k := 7) (by decide)
  have heffect : slotByteStored b.toNat = true := decide_eq_true hlow
  rw [hostWrite_next d s ha hm, State.sideEffects, if_pos (chOffset_lt c b (by decide)), hbyte, if_pos ⟨hslot, heffect⟩, hc,
    topBitStored_eq_topBitWritten d b.isLt hb]

/-- Settles O44: bytes 2 and 3 hold nothing; the others are a WRITE of slot 7 without LFORE. -/
theorem lfoRegisterWriteRecomputes : Obligations.LfoRegisterWriteRecomputes := by
  intro z c b d s hb hwf
  have hlfore : topBitWritten z b.toNat d = false := Bool.eq_false_of_not_eq_true' hwf
  obtain ⟨ha, hm, hbyte⟩ := chOffset_access hb c (k := 7) (by decide)
  refine ⟨fun hup => hostWrite_upperHalf ha hm (by omega) d s, fun hlow =>
    ⟨storeBytes s.regs (chOffset c 7 b) d z.bytes, read_storeBytes_chOffset z c (by decide) b s.regs d, ?_⟩⟩
  refine (hostWrite_lfo hb hlow c d s).trans (congrArg _ ?_)
  rw [hlfore, State.lfoWriteAction, Channel.lfoWrite_false]
  rfl

/-- A WRITE of slot 7 with LFORE: the LFO reset under the fields stored, then the bit cleared in byte 1 of the slot (R230). -/
theorem hostWrite_lfore {z : Size} {b : BitVec 2} (hb : b.toNat % z.bytes = 0) {d : Word}
    (hlfore : topBitWritten z b.toNat d = true) (c : Chan) (s : State) :
    ∃ m m' : Memory,
      let ln : Lane := { cfg := s.cfg, regs := m, wave := s.wave, c := c }
      (∀ o, m.read o = if chOffset c 7 b ≤ o ∧ o < chOffset c 7 b + z.bytes ∧ o % 4 < 2 then dataByte d (o - chOffset c 7 b)
        else s.regByte o) ∧
      (∀ o, m'.read o = if o = 128 * c.toNat + 29 then m.read o &&& 0x7F else m.read o) ∧
      hostWrite z (chOffset c 7 b) d s = .next { s.setChan c { s.chan c with
        lfoPhase := 0
        lfoCounter := lfoStart ln.lfof
        alfo := lfoDepth (lfoWave ln.alfows 0) ln.alfos
        plfo := lfoDepth (lfoWave ln.plfows 0) ln.plfos } with regs := m' } := by
  have hlow : b.toNat ≤ 1 :=
    ((topBitStored_iff z b.toNat d).1 ((topBitStored_eq_topBitWritten d b.isLt hb).trans hlfore)).1
  refine ⟨storeBytes s.regs (chOffset c 7 b) d z.bytes, clearTopBit (storeBytes s.regs (chOffset c 7 b) d z.bytes) c 7,
    read_storeBytes_chOffset z c (by decide) b s.regs d, read_clearTopBit _ c 7, ?_⟩
  refine (hostWrite_lfo hb (by omega) c d s).trans (congrArg _ ?_)
  rw [hlfore, State.lfoWriteAction, Channel.lfoWrite_true]
  rfl

/-- Settles O45: each row is a WRITE that covers byte 1 of slot 7 and has LFORE set by its own condition. -/
theorem lforeWriteResetsThePhase : Obligations.LforeWriteResetsThePhase := by
  intro c d s
  simp only [List.forall_mem_cons]
  exact ⟨fun h => hostWrite_lfore (z := .b1) (b := 1) rfl h c s, fun h => hostWrite_lfore (z := .b2) (b := 0) rfl h c s,
    fun h => hostWrite_lfore (z := .b4) (b := 0) rfl h c s, fun _ h => nomatch h⟩

end Sys2Proof.Machine

/-! Family 44_channel_mix.md: the attenuations of a channel and its contribution to the sums, on numbers. -/

namespace Sys2Proof.Machine

theorem sendAtt_eq (n : BitVec 4) : sendAtt n = if n.toNat = 0 then 511 else (15 - n.toNat) * 8 :=
  if_congr BitVec.toNat_eq rfl rfl

/-- The low four bits of a pan are its magnitude, the top bit its direction (R255, R256). -/
theorem pan_fields (p : BitVec 5) : (p.extractLsb' 0 4).toNat = p.toNat % 16 ∧ p.getLsbD 4 = decide (16 ≤ p.toNat) := by
  revert p
  decide

theorem panAtt_eq (p : BitVec 5) : panAtt p = if p.toNat % 16 = 15 then 511 else p.toNat % 16 * 8 := by
  rw [panAtt, (pan_fields p).1]
  rfl

/-- The clamp of the send's base comes first, the far side's pan after it (R256). -/
theorem panHelper_eq (base : Nat) (p : BitVec 5) :
    panHelper base p = if 16 ≤ p.toNat then (min base 511, min (min base 511 + panAtt p) 511)
      else (min (min base 511 + panAtt p) 511, min base 511) := by
  simp only [panHelper, (pan_fields p).2, decide_eq_true_eq]

/-- A base at the mute attenuation stays there on both sides, whatever the pan. -/
theorem panHelper_of_mute {base : Nat} (h : 511 ≤ base) (p : BitVec 5) : panHelper base p = (511, 511) := by
  have hbase : min base 511 = 511 := Nat.min_eq_right h
  have hfar : min (511 + panAtt p) 511 = 511 := Nat.min_eq_right (Nat.le_add_right _ _)
  rw [panHelper_eq, hbase, hfar, ite_self]

/-- Settles O57: the send levels and the pan as numbers, in the clamps of R256 and R257. -/
theorem busAttenuationsOfAChannel : Obligations.BusAttenuationsOfAChannel := by
  intro ln send pan b x
  constructor
  · rw [Lane.busAtt, panHelper_eq, panAtt_eq, sendAtt_eq]
  · rw [Lane.auxAtt, sendAtt_eq]

theorem attLut_of_le {i : Nat} (h : 255 ≤ i) : attLut i = 0 := by
  rcases Nat.eq_or_lt_of_le h with rfl | h
  · rfl
  · exact List.getD_eq_default _ _ (length_attRows.trans_le h)

theorem attenuate_eq (v : Int) (i : Nat) : attenuate v i = v * (attLut i : Int) / 32768 := rfl

theorem attenuate_of_silent (v : Int) {i : Nat} (h : 255 ≤ i) : attenuate v i = 0 := by
  rw [attenuate_eq, attLut_of_le h]
  simp

/-- What a channel contributes to a bus of attenuation `att`: its interpolated sample under that attenuation and its own
(R260 to R263). -/
def Channel.gain (ch : Channel) (att : Nat) : Int :=
  if ch.enabled then
    ch.interp * (attLut (min (ch.alfo.toNat + ch.aegFp / 65536 / 4 + att) 1023) : Int) / 32768
  else 0

/-- The clamp of the channel's own attenuation is absorbed by that of the bus index (R262, R263). -/
theorem Channel.busIndex_attOffset (ch : Channel) (att : Nat) :
    busIndex ch.attOffset att = min (ch.alfo.toNat + ch.aegFp / 65536 / 4 + att) 1023 := by
  have hv : ch.envValue >>> 2 = ch.aegFp / 65536 / 4 := by
    simp only [Channel.envValue, aegStepBits, Nat.shiftRight_eq_div_pow]
  simp only [busIndex, Channel.attOffset, hv, attLen]
  omega

theorem Channel.gain_of_enabled {ch : Channel} (he : ch.enabled = true) (att : Nat) :
    ch.gain att = attenuate ch.interp (busIndex ch.attOffset att) := by
  rw [attenuate_eq, Channel.busIndex_attOffset]
  exact if_pos he

/-- A disabled channel and one whose V is at least 1020 contribute nothing to any bus (R251, R260). -/
theorem Channel.gain_of_silent {ch : Channel} (h : ch.enabled = true → 1020 * 65536 ≤ ch.aegFp) (att : Nat) :
    ch.gain att = 0 := by
  by_cases he : ch.enabled = true
  · have hv := h he
    rw [Channel.gain_of_enabled he]
    exact attenuate_of_silent _ (by rw [Channel.busIndex_attOffset]; omega)
  · exact if_neg he

/-! The sums after a channel's turn. -/

theorem Channel.turnMix_l (ch : Channel) (ln : Lane) (m : Frame) : (ch.turnMix ln m).l = m.l + ch.gain ln.busAtt.1 := by
  by_cases he : ch.enabled = true
  · rw [Channel.turnMix, if_pos he, Channel.gain_of_enabled he]
    rfl
  · simp [Channel.turnMix, Channel.gain, he]

theorem Channel.turnMix_r (ch : Channel) (ln : Lane) (m : Frame) : (ch.turnMix ln m).r = m.r + ch.gain ln.busAtt.2 := by
  by_cases he : ch.enabled = true
  · rw [Channel.turnMix, if_pos he, Channel.gain_of_enabled he]
    rfl
  · simp [Channel.turnMix, Channel.gain, he]

/-- Only the bus that ISEL selects gets the channel (R264). -/
theorem Channel.turnMix_aux (ch : Channel) (ln : Lane) (m : Frame) (k : BitVec 4) :
    (ch.turnMix ln m).aux[k.toNat]'k.isLt = m.aux[k.toNat]'k.isLt + if ln.isel = k then ch.gain ln.auxAtt else 0 := by
  by_cases he : ch.enabled = true
  · rw [Channel.gain_of_enabled he]
    simp only [Channel.turnMix, if_pos he, Channel.mixInto, Vector.getElem_set]
    by_cases hk : ln.isel = k
    · subst hk
      simp
    · have hne : ln.isel.toNat ≠ k.toNat := fun e => hk (BitVec.eq_of_toNat_eq e)
      simp [hk, hne]
  · simp [Channel.turnMix, Channel.gain, he]

/-- What channel number `n` of the state contributes to the bus whose attenuation `att` gives. -/
abbrev State.gainOf (s : State) (att : Lane → Nat) (n : Nat) : Int :=
  (s.chan (BitVec.ofNat 6 n)).gain (att (s.lane (BitVec.ofNat 6 n)))

/-- The sums after the turns of the first `n` channels (R250, R261 to R264). -/
theorem State.sums_tickUpTo (s : State) {n : Nat} (hn : n ≤ 64) :
    (s.tickUpTo n).2.l = ∑ i ∈ Finset.range n, s.gainOf (·.busAtt.1) i ∧
    (s.tickUpTo n).2.r = ∑ i ∈ Finset.range n, s.gainOf (·.busAtt.2) i ∧
    ∀ k : BitVec 4, (s.tickUpTo n).2.aux[k.toNat]'k.isLt =
      ∑ i ∈ Finset.range n, if (s.lane (BitVec.ofNat 6 i)).isel = k then s.gainOf (·.auxAtt) i else 0 := by
  induction n with
  | zero => simp [State.tickUpTo, Frame.zero]
  | succ n ih =>
    obtain ⟨hl, hr, haux⟩ := ih (Nat.le_of_succ_le hn)
    simp only [State.mix_tickUpTo_succ s hn, Channel.turnMix_l, Channel.turnMix_r, Channel.turnMix_aux, hl, hr, haux,
      Finset.sum_range_succ, implies_true, and_self]

end Sys2Proof.Machine

/-! Family 44_channel_mix.md: the CD input and the output stage, and what a TICK answers. -/

namespace Sys2Proof.Machine

theorem exec_tick (s : State) : exec .tick s = .next s.mixTick := rfl

/-- Settles O51: every channel has its turn, and a turn is the channel's steps where it is enabled (the filter's step is a
no-op, R194). -/
theorem tickStepsEveryEnabledChannel : Obligations.TickStepsEveryEnabledChannel := by
  intro s
  refine ⟨s.mixTick, exec_tick s, s.chan_mixTick, ?_⟩
  refine ⟨s.regs_mixTick, s.wave_mixTick, s.cfg_mixTick, s.bench_mixTick, s.inbox_mixTick, s.inp_mixTick,
    s.readData_mixTick, ?_⟩
  rw [s.sink_mixTick, s.frame_mixTick]

/-- One input of the CD pair as it reaches a side of attenuation `att`: nothing when CD_MUTE is true (R265). -/
def State.cdPart (s : State) (v : Int) (att : Nat) : Int :=
  if s.cfg.cdMute then 0 else v * (attLut att : Int) / 32768

/-- The attenuations of the CD send slot `k` (R265). -/
abbrev Memory.cdAtt (m : Memory) (k : Nat) : Nat × Nat := panHelper (sendAtt (m.efsdl k)) (m.efpan k)

theorem State.cdInject_l (s : State) (m : Frame) : (s.cdInject m).l =
    m.l + s.cdPart s.inp.cdL.toInt (s.regs.cdAtt 16).1 + s.cdPart s.inp.cdR.toInt (s.regs.cdAtt 17).1 := by
  unfold State.cdInject State.cdPart
  cases s.cfg.cdMute
  · rfl
  · simp

theorem State.cdInject_r (s : State) (m : Frame) : (s.cdInject m).r =
    m.r + s.cdPart s.inp.cdL.toInt (s.regs.cdAtt 16).2 + s.cdPart s.inp.cdR.toInt (s.regs.cdAtt 17).2 := by
  unfold State.cdInject State.cdPart
  cases s.cfg.cdMute
  · rfl
  · simp

@[simp] theorem State.cdInject_aux (s : State) (m : Frame) : (s.cdInject m).aux = m.aux := by
  unfold State.cdInject
  split <;> rfl

theorem monoFold_l (regs : Memory) (m : Frame) : (monoFold regs m).l = if regs.mono then m.l + m.r else m.l := by
  unfold monoFold
  split <;> rfl

theorem monoFold_r (regs : Memory) (m : Frame) : (monoFold regs m).r = if regs.mono then m.l + m.r else m.r := by
  unfold monoFold
  split <;> rfl

@[simp] theorem monoFold_aux (regs : Memory) (m : Frame) : (monoFold regs m).aux = m.aux := by
  unfold monoFold
  split <;> rfl

/-- One side of the output stage: master volume, output shift, clip (R267 to R269). -/
def sideOut (regs : Memory) (v : Int) : Int := clip16 (outputShift regs (masterVolume regs v))

theorem sideOut_eq (regs : Memory) (v : Int) : sideOut regs v =
    (let y := v * (mvolLut regs.mvol : Int) / 32768
     max (-32768) (min 32767 (if regs.dac18b then y / 4 else y))) := by
  rw [sideOut, clip16_eq]
  rfl

theorem sideOut_zero (regs : Memory) : sideOut regs 0 = 0 := by
  rw [sideOut_eq]
  simp

/-- The left side before the mono fold: the channels and the CD pair. -/
def State.mixL (s : State) : Int :=
  (∑ i ∈ Finset.range 64, s.gainOf (·.busAtt.1) i) + s.cdPart s.inp.cdL.toInt (s.regs.cdAtt 16).1 +
    s.cdPart s.inp.cdR.toInt (s.regs.cdAtt 17).1

/-- The right side before the mono fold. -/
def State.mixR (s : State) : Int :=
  (∑ i ∈ Finset.range 64, s.gainOf (·.busAtt.2) i) + s.cdPart s.inp.cdL.toInt (s.regs.cdAtt 16).2 +
    s.cdPart s.inp.cdR.toInt (s.regs.cdAtt 17).2

/-- The frame of a TICK is the mix through the output stage; the auxiliary sums pass it as they are (R250, R269). -/
theorem State.frame_mixTick_eq (s : State) :
    s.mixTick.frame.l = sideOut s.regs (if s.regs.mono then s.mixL + s.mixR else s.mixL) ∧
    s.mixTick.frame.r = sideOut s.regs (if s.regs.mono then s.mixL + s.mixR else s.mixR) ∧
    ∀ k : BitVec 4, s.mixTick.frame.aux[k.toNat]'k.isLt =
      ∑ i ∈ Finset.range 64, if (s.lane (BitVec.ofNat 6 i)).isel = k then s.gainOf (·.auxAtt) i else 0 := by
  obtain ⟨hl, hr, haux⟩ := s.sums_tickUpTo (n := 64) le_rfl
  have hL : (s.cdInject (s.tickUpTo 64).2).l = s.mixL := by rw [State.cdInject_l, hl, State.mixL]
  have hR : (s.cdInject (s.tickUpTo 64).2).r = s.mixR := by rw [State.cdInject_r, hr, State.mixR]
  rw [s.frame_mixTick]
  refine ⟨?left, ?right, ?aux⟩
  case left => rw [State.outputStage, monoFold_l, hL, hR, sideOut]
  case right => rw [State.outputStage, monoFold_r, hL, hR, sideOut]
  case aux =>
    intro k
    simp only [State.outputStage, monoFold_aux, State.cdInject_aux, haux]

/-- Settles O52: the sums of the channels' turns go through the output stage, whose shifts are floored divisions. -/
theorem tickFrameIsTheMix : Obligations.TickFrameIsTheMix := by
  intro s x ofs gain sumL sumR cd p16 p17 l r out
  obtain ⟨hl, hr, haux⟩ := s.frame_mixTick_eq
  have hout : ∀ v, sideOut s.regs v = out v := sideOut_eq s.regs
  exact ⟨s.mixTick, exec_tick s, hl.trans (hout _), hr.trans (hout _), haux⟩

/-- Settles O55: the fold gives both sides the same sum, and the output stage ends in the clip. -/
theorem monoMakesBothSidesEqual : Obligations.MonoMakesBothSidesEqual := by
  intro s hbit
  have hmono : s.regs.mono = true := (Memory.half_topBit _ _).trans hbit
  obtain ⟨hl, hr, -⟩ := s.frame_mixTick_eq
  rw [if_pos hmono] at hl hr
  have hrange := clip16_range (outputShift s.regs (masterVolume s.regs (s.mixL + s.mixR)))
  exact ⟨s.mixTick, exec_tick s, hl.trans hr.symm, hl ▸ hrange⟩

/-- A send level of 0 mutes its CD input on both sides (R254, R265). -/
theorem Memory.cdAtt_of_efsdl_zero {m : Memory} {k : Nat} (h : m.efsdl k = 0) : m.cdAtt k = (511, 511) := by
  rw [Memory.cdAtt, h]
  exact panHelper_of_mute le_rfl _

theorem State.cdPart_of_cdMute {s : State} (h : s.cfg.cdMute = true) (v : Int) (att : Nat) : s.cdPart v att = 0 := if_pos h

theorem State.cdPart_of_mute (s : State) (v : Int) : s.cdPart v 511 = 0 := by
  rw [State.cdPart, ← attenuate_eq, attenuate_of_silent v (by decide), ite_self]

/-- The CD pair reaches neither side when CD_MUTE is true or both its send levels are 0. -/
theorem State.cdPart_of_unsent {s : State} (h : s.cfg.cdMute = true ∨ (s.regs.efsdl 16 = 0 ∧ s.regs.efsdl 17 = 0))
    (v : Int) : s.cdPart v (s.regs.cdAtt 16).1 = 0 ∧ s.cdPart v (s.regs.cdAtt 16).2 = 0 ∧
      s.cdPart v (s.regs.cdAtt 17).1 = 0 ∧ s.cdPart v (s.regs.cdAtt 17).2 = 0 := by
  rcases h with hmute | ⟨h16, h17⟩
  · simp only [State.cdPart_of_cdMute hmute, and_self]
  · simp only [Memory.cdAtt_of_efsdl_zero h16, Memory.cdAtt_of_efsdl_zero h17, State.cdPart_of_mute, and_self]

/-- A frame whose sums all read 0 is the zero frame. -/
theorem Frame.eq_zero {m : Frame} (hl : m.l = 0) (hr : m.r = 0) (haux : ∀ k : BitVec 4, m.aux[k.toNat]'k.isLt = 0) :
    m = Frame.zero := by
  obtain ⟨l, r, aux⟩ := m
  obtain rfl : aux = Vector.replicate 16 0 := by
    ext i hi
    simpa [Nat.mod_eq_of_lt hi] using haux (BitVec.ofNat 4 i)
  subst hl hr
  rfl

/-- Settles O54: no channel contributes to a bus and the CD pair reaches no side, so the output stage is given zeros. -/
theorem silentEnvelopesGiveSilence : Obligations.SilentEnvelopesGiveSilence := by
  intro s hsilent hcd
  have hgain : ∀ att n, s.gainOf att n = 0 := fun att n => Channel.gain_of_silent (hsilent _) _
  have hL : s.mixL = 0 := by simp [State.mixL, hgain, State.cdPart_of_unsent hcd]
  have hR : s.mixR = 0 := by simp [State.mixR, hgain, State.cdPart_of_unsent hcd]
  obtain ⟨hl, hr, haux⟩ := s.frame_mixTick_eq
  refine ⟨s.mixTick, exec_tick s, Frame.eq_zero ?left ?right ?aux⟩
  case left => rw [hl, hL, hR, add_zero, ite_self, sideOut_zero]
  case right => rw [hr, hL, hR, add_zero, ite_self, sideOut_zero]
  case aux =>
    intro k
    simp only [haux k, hgain, ite_self, Finset.sum_const_zero]

end Sys2Proof.Machine

/-! Family 44_channel_mix.md: a channel's steps read its own registers, the configuration and wave memory, and nothing else. -/

namespace Sys2Proof.Machine

/-- Two lanes of one channel's rules that read alike: the configuration, wave memory and the channel's 32 slots agree. -/
structure Lane.Alike (ln ln' : Lane) : Prop where
  cfg : ln'.cfg = ln.cfg
  wave : ln'.wave = ln.wave
  slot : ∀ k, k < 32 → ln'.slot k = ln.slot k

namespace Lane.Alike

variable {ln ln' : Lane} (h : Lane.Alike ln ln')

/-- A slot is its two bytes, which lie among the channel's 128. -/
theorem of_regByte {s s' : State} {c : Chan} (hcfg : s'.cfg = s.cfg) (hwave : s'.wave = s.wave)
    (hreg : ∀ o, 128 * c.toNat ≤ o → o < 128 * c.toNat + 128 → s'.regByte o = s.regByte o) :
    Lane.Alike (s.lane c) (s'.lane c) where
  cfg := hcfg
  wave := hwave
  slot k hk := by
    have hlow := hreg (128 * c.toNat + 4 * k) (by omega) (by omega)
    have hhigh := hreg (128 * c.toNat + 4 * k + 1) (by omega) (by omega)
    exact congrArg₂ (· ++ ·) hhigh hlow

include h

/-! The fields and the derived values that the steps read. -/

theorem lpslnk : ln'.lpslnk = ln.lpslnk := by rw [Lane.lpslnk, Lane.lpslnk, h.slot 5 (by decide)]

theorem ssctl : ln'.ssctl = ln.ssctl := by rw [Lane.ssctl, Lane.ssctl, h.slot 0 (by decide)]

theorem pcms : ln'.pcms = ln.pcms := by rw [Lane.pcms, Lane.pcms, h.slot 0 (by decide)]

theorem krs : ln'.krs = ln.krs := by rw [Lane.krs, Lane.krs, h.slot 5 (by decide)]

theorem lpctl : ln'.lpctl = ln.lpctl := by rw [Lane.lpctl, Lane.lpctl, h.slot 0 (by decide)]

theorem lsa : ln'.lsa = ln.lsa := h.slot 2 (by decide)

theorem lea : ln'.lea = ln.lea := h.slot 3 (by decide)

theorem sa : ln'.sa = ln.sa := by rw [Lane.sa, Lane.sa, h.slot 0 (by decide), h.slot 1 (by decide)]

theorem dl : ln'.dl = ln.dl := by rw [Lane.dl, Lane.dl, h.slot 5 (by decide)]

theorem oct : ln'.oct = ln.oct := by rw [Lane.oct, Lane.oct, h.slot 6 (by decide)]

theorem fns : ln'.fns = ln.fns := by rw [Lane.fns, Lane.fns, h.slot 6 (by decide)]

theorem format : ln'.format = ln.format := by rw [Lane.format, Lane.format, h.ssctl, h.pcms]

theorem updateRate : ln'.updateRate = ln.updateRate := by rw [Lane.updateRate, Lane.updateRate, h.oct, h.fns]

theorem effRate (re : BitVec 5) : ln'.effRate re = ln.effRate re := by
  rw [Lane.effRate, Lane.effRate, h.krs, h.oct, h.fns]

theorem loopEnd (ca : Nat) : ln'.loopEnd ca = ln.loopEnd ca := by
  rw [Lane.loopEnd, Lane.loopEnd, Lane.compareAddr, Lane.compareAddr, h.lea, h.format]

theorem linkHit (st : EgState) (ca : Nat) : ln'.linkHit st ca = ln.linkHit st ca := by
  simp only [Lane.linkHit, h.lpslnk, h.lsa]

/-! The steps. -/

theorem aegStep (ch : Channel) : ch.aegStep ln' = ch.aegStep ln := by
  have hattack : ln'.attackRate = ln.attackRate := by
    simp only [Lane.attackRate, Lane.ar, h.slot 4 (by decide), h.effRate]
  have hdecay1 : ln'.decay1Rate = ln.decay1Rate := by
    simp only [Lane.decay1Rate, Lane.d1r, h.slot 4 (by decide), h.effRate]
  have hdecay2 : ln'.decay2Rate = ln.decay2Rate := by
    simp only [Lane.decay2Rate, Lane.d2r, h.slot 4 (by decide), h.effRate]
  have hrelease : ln'.releaseRate = ln.releaseRate := by
    simp only [Lane.releaseRate, Lane.rr, h.slot 5 (by decide), h.effRate]
  unfold Channel.aegStep
  cases ch.aegState with
  | attack => simp only [Channel.attackStep, hattack, h.lpslnk]
  | decay1 => simp only [Channel.decay1Step, hdecay1, h.dl, h.cfg]
  | decay2 => simp only [Channel.decay2Step, hdecay2]
  | release => simp only [Channel.releaseStep, hrelease]

theorem fetch (ch : Channel) (a : Nat) (last : Bool) : ch.fetch ln' a last = ch.fetch ln a last := by
  unfold Channel.fetch
  rw [h.format]
  cases ln.format with
  | pcm16 => simp only [Channel.fetchPcm16, Lane.pcm16Sample, h.wave, h.sa]
  | pcm8 => simp only [Channel.fetchPcm8, Lane.pcm8Sample, h.wave, h.sa]
  | adpcm | adpcmStream => simp only [Channel.fetchAdpcm, Lane.adpcmCode, h.wave, h.sa]
  | noise => rfl

theorem streamCross (ch : Channel) (last : Bool) : ch.streamCross ln' last = ch.streamCross ln last := by
  simp only [Channel.streamCross, Channel.link, Channel.hitLoopEnd, h.loopEnd, h.linkHit, h.lpctl, h.format, h.cfg, h.lsa,
    h.fetch]

theorem streamRun (ch : Channel) (n : Nat) : ch.streamRun ln' n = ch.streamRun ln n := by
  induction n generalizing ch with
  | zero => rfl
  | succ n ih => rw [Channel.streamRun, Channel.streamRun, h.streamCross, ih]

theorem streamStep (ch : Channel) : ch.streamStep ln' = ch.streamStep ln := by
  simp only [Channel.streamStep, h.updateRate, h.streamRun]

theorem lfoStep (ch : Channel) : ch.lfoStep ln' = ch.lfoStep ln := by
  simp only [Channel.lfoStep, Channel.lfoRecompute, Lane.lfof, Lane.alfows, Lane.alfos, Lane.plfows, Lane.plfos,
    h.slot 7 (by decide)]

theorem turn (ch : Channel) : ch.turn ln' = ch.turn ln := by
  simp only [Channel.turn, Channel.steps, h.aegStep, h.streamStep, h.lfoStep]

end Lane.Alike

/-- Settles O58: a TICK gives the channel its turn, which reads no more than its lane. -/
theorem channelsDoNotInfluenceEachOther : Obligations.ChannelsDoNotInfluenceEachOther := by
  intro s s' c hcfg hwave hchan hreg
  refine ⟨s.mixTick, s'.mixTick, exec_tick s, exec_tick s', ?_⟩
  calc s'.mixTick.chan c = (s'.chan c).turn (s'.lane c) := s'.chan_mixTick c
    _ = (s.chan c).turn (s'.lane c) := by rw [hchan]
    _ = (s.chan c).turn (s.lane c) := (Lane.Alike.of_regByte hcfg hwave hreg).turn _
    _ = s.mixTick.chan c := (s.chan_mixTick c).symm

end Sys2Proof.Machine

/-! Family 45_register_interface.md: WRITEs that store nothing, and the accesses that are refused. -/

namespace Sys2Proof.Machine

/-- A WRITE to the read-only registers stores nothing and has no side effect (45_register_interface.md R304). -/
theorem hostWrite_readOnly {z : Size} {a : Nat} (ha : a % z.bytes = 0) (hlo : 0x2810 ≤ a) (hhi : a ≤ 0x2817) (d : Word)
    (s : State) : hostWrite z a d s = .next s := by
  have hslot := aligned_in_slot ha
  have hkept : storeBytes s.regs a d z.bytes = s.regs := by
    refine storeBytes_eq_self d fun i hi => Bool.eq_false_of_not_eq_true fun hst => ?_
    have hwritable := ((byteStored_iff _).1 hst).2
    omega
  rw [hostWrite_next d s ha ((mapped_iff a).2 (by omega)), hkept, State.sideEffects, if_neg (by omega)]

/-- An aligned byte of a slot is aligned in the register space. -/
theorem aligned_slotByte {z : Size} {o b : Nat} (ho : o % 4 = 0) (hb : b % z.bytes = 0) : (o + b) % z.bytes = 0 := by
  cases z <;> simp only [Size.bytes] at hb ⊢ <;> omega

/-- Settles O38: both rows are WRITEs to the read-only registers. -/
theorem statusWritesAreIgnored : Obligations.StatusWritesAreIgnored := by
  intro z b d s hb
  have hb4 := b.isLt
  exact ⟨hostWrite_readOnly (a := 0x2810 + b.toNat) (aligned_slotByte rfl hb) (by omega) (by omega) d s,
    hostWrite_readOnly (a := 0x2814 + b.toNat) (aligned_slotByte rfl hb) (by omega) (by omega) d s⟩

/-- Settles O39: the upper half of a slot holds no byte, and its WRITE has no side effect. -/
theorem upperHalfWritesStoreNothing : Obligations.UpperHalfWritesStoreNothing := by
  intro z a d s ha hup hmap
  exact hostWrite_upperHalf ha ((mapped_iff _).2 (by omega)) hup d s

/-- The alignment rule of R302 by size: a 1-byte access is never misaligned. -/
theorem misaligned_by_size (z : Size) (a : Nat) : (z = .b2 ∧ a % 2 = 1) ∨ (z = .b4 ∧ a % 4 ≠ 0) ↔ a % z.bytes ≠ 0 := by
  rw [← misaligned_iff]
  simp [misaligned]

theorem accessRefusal_of_misaligned {z : Size} {a : Nat} (h : a % z.bytes ≠ 0) : accessRefusal z a = some .misaligned :=
  if_pos ((misaligned_iff z a).2 h)

theorem accessRefusal_of_unmapped {z : Size} {a : Nat} (ha : a % z.bytes = 0) (hm : ¬ mapped a = true) :
    accessRefusal z a = some .unmapped := by
  rw [accessRefusal, if_neg fun h => (misaligned_iff z a).1 h ha, if_neg hm]

theorem hostRead_refused {z : Size} {a : Nat} {r : Refusal} (h : accessRefusal z a = some r) (s : State) :
    hostRead z a s = .refused r := by
  rw [hostRead, h]
  rfl

theorem hostWrite_refused {z : Size} {a : Nat} {r : Refusal} (h : accessRefusal z a = some r) (d : Word) (s : State) :
    hostWrite z a d s = .refused r := by
  rw [hostWrite, h]
  rfl

/-- A kind 11 word is the reserved operation (30_encoding.md R106). -/
theorem decodeHostOp_kind11 {z a d : Nat} (hz : z < 4) (ha : a < 65536) (hd : d < 2 ^ 32) :
    decodeHostOp (hostWord 3 z a d) = .reservedOp := by
  obtain ⟨hk, -⟩ := hostWord_fields (by decide : 3 < 4) hz ha hd
  simp only [decodeHostOp, hk]

/-- Settles O40: the kind and size codes are fields of the word, and an access is refused by its alignment, else by the map, else
not at all. -/
theorem refusedOperations : Obligations.RefusedOperations := by
  refine ⟨fun zc a d hz ha hd => ⟨decodeHostOp_kind11 hz ha hd, decodeHostOp_kind01 (by decide : 3 < 4) ha hd, ?_⟩,
    fun _ => ⟨rfl, rfl, rfl⟩, ?_⟩
  · have hword := decodeHostOp_kind10 (by decide : 3 < 4) ha (BitVec.ofNat 32 d)
    rwa [BitVec.toNat_ofNat, Nat.mod_eq_of_lt hd] at hword
  · intro z a d s bad inMap
    have hbad : bad ↔ a.toNat % z.bytes ≠ 0 := misaligned_by_size z a.toNat
    have hmap : inMap ↔ mapped a.toNat = true := by
      rw [mapped_iff]
      omega
    rw [hbad, hmap, exec_read, exec_write]
    refine ⟨fun h => ?misaligned, fun h hm => ?unmapped, fun h hm => ?performed⟩
    case misaligned =>
      have hr := accessRefusal_of_misaligned h
      exact ⟨hostRead_refused hr s, hostWrite_refused hr d s⟩
    case unmapped =>
      have hr := accessRefusal_of_unmapped (not_not.1 h) hm
      exact ⟨hostRead_refused hr s, hostWrite_refused hr d s⟩
    case performed =>
      exact ⟨⟨_, hostRead_next s (not_not.1 h) hm⟩, _, hostWrite_next d s (not_not.1 h) hm⟩

end Sys2Proof.Machine

/-! Family 45_register_interface.md: the key-on-execute action and key-off. -/

namespace Sys2Proof.Machine

theorem Channel.keyOff_of_ne_release {ch : Channel} (h : ch.aegState ≠ .release) :
    ch.keyOff = { ch with aegState := .release, fegState := .release } :=
  if_neg h

theorem Channel.keyOff_of_release {ch : Channel} (h : ch.aegState = .release) : ch.keyOff = ch := if_pos h

/-- Settles O43, by the two cases of key-off. -/
theorem keyOffReleasesAPlayingChannel : Obligations.KeyOffReleasesAPlayingChannel :=
  fun _ => ⟨Channel.keyOff_of_ne_release, Channel.keyOff_of_release⟩

/-- KYONB is bit 6 of byte 1 of slot 0 (30_encoding.md R81). -/
theorem Lane.kyonb_eq (ln : Lane) : ln.kyonb = (ln.regs.read (128 * ln.c.toNat + 1)).getLsbD 6 := by
  rw [Lane.kyonb, Lane.slot, Memory.half, BitVec.getLsbD_append]
  rfl

/-- The key-on-execute action changes only the channels and the register bytes (45_register_interface.md R294). -/
theorem State.kyonexAction_eq (s : State) (c : Chan) :
    s.kyonexAction c = { s with regs := clearTopBit s.regs c 0, chans := (s.kyonexAction c).chans } := by
  apply State.ext_chan
  case hc => exact fun _ => by simp only [State.chan]
  all_goals simp

/-- A WRITE that stores 1 into KYONEX of channel `c`'s slot 0: its bytes are stored, then the action keys every channel. -/
theorem hostWrite_kyonex {z : Size} {b : BitVec 2} (hb : b.toNat % z.bytes = 0) {d : Word}
    (hkyonex : topBitWritten z b.toNat d = true) (c : Chan) (s : State) :
    hostWrite z (chOffset c 0 b) d s =
      .next (State.kyonexAction { s with regs := storeBytes s.regs (chOffset c 0 b) d z.bytes } c) := by
  obtain ⟨ha, hm, hbyte⟩ := chOffset_access hb c (k := 0) (by decide)
  obtain ⟨hc, hslot, -⟩ := chOffset_fields c b (k := 0) (by decide)
  rw [hostWrite_next d s ha hm, State.sideEffects, if_pos (chOffset_lt c b (by decide)), hbyte, hslot, hc,
    topBitStored_eq_topBitWritten d b.isLt hb, if_neg (fun h => nomatch h.1), if_pos ⟨rfl, hkyonex⟩]

/-- What such a WRITE leaves: the bytes stored and KYONEX cleared, every channel keyed by its own KYONB, all else unchanged. -/
theorem hostWrite_kyonex_keys {z : Size} {b : BitVec 2} (hb : b.toNat % z.bytes = 0) {d : Word}
    (hkyonex : topBitWritten z b.toNat d = true) (c : Chan) (s : State) :
    ∃ (m m' : Memory) (t : State), hostWrite z (chOffset c 0 b) d s = .next t ∧
      (∀ o, m.read o = if chOffset c 0 b ≤ o ∧ o < chOffset c 0 b + z.bytes ∧ o % 4 < 2 then dataByte d (o - chOffset c 0 b)
        else s.regByte o) ∧
      (∀ o, m'.read o = if o = 128 * c.toNat + 1 then m.read o &&& 0x7F else m.read o) ∧
      t = { s with regs := m', chans := t.chans } ∧
      ∀ j : Chan, t.chan j =
        if (m.read (128 * j.toNat + 1)).getLsbD 6 then (s.chan j).keyOn { cfg := s.cfg, regs := m, wave := s.wave, c := j }
        else (s.chan j).keyOff := by
  refine ⟨_, _, _, hostWrite_kyonex hb hkyonex c s, read_storeBytes_chOffset z c (by decide) b s.regs d,
    read_clearTopBit _ c 0, State.kyonexAction_eq _ c, fun j => ?_⟩
  rw [State.chan_kyonexAction, Channel.keyExecute, Lane.kyonb_eq]
  rfl

/-- Settles O41: each row is a WRITE that covers byte 1 of slot 0 and has KYONEX set by its own condition. -/
theorem kyonexKeysEveryChannel : Obligations.KyonexKeysEveryChannel := by
  intro c d s
  simp only [List.forall_mem_cons]
  exact ⟨fun h => hostWrite_kyonex_keys (z := .b1) (b := 1) rfl h c s,
    fun h => hostWrite_kyonex_keys (z := .b2) (b := 0) rfl h c s,
    fun h => hostWrite_kyonex_keys (z := .b4) (b := 0) rfl h c s, fun _ h => nomatch h⟩

end Sys2Proof.Machine

/-! Family 45_register_interface.md: the play-address register, and a register read back after a WRITE. -/

namespace Sys2Proof.Machine

/-- The bytes of the play-address register are those of its value, and 0 above it (45_register_interface.md R300). -/
theorem State.readByte_ca (s : State) {i : Nat} (hi : i < 4) :
    s.readByte (0x2814 + i) = BitVec.ofNat 8 ((s.chan s.regs.mslc).ca % 65536 / 256 ^ i) := by
  have hv : (s.chan s.regs.mslc).caValue.toNat = (s.chan s.regs.mslc).ca % 65536 := BitVec.toNat_ofNat _ _
  unfold State.readByte
  by_cases hup : 2 ≤ i
  · have hzero : (s.chan s.regs.mslc).ca % 65536 / 256 ^ i = 0 :=
      Nat.div_eq_of_lt ((Nat.mod_lt _ (by decide)).trans_le (Nat.pow_le_pow_right (by decide : 0 < 256) hup))
    rw [if_pos (by omega), hzero]
    rfl
  · rw [if_neg (by omega), if_neg (by omega), if_pos (by omega), Nat.add_sub_cancel_left, extractLsb'_byte_eq_ofNat, hv]

/-- An aligned READ of the play-address register: the bytes of the address from the one at the offset; nothing clears
(45_register_interface.md R297, R300, R301). -/
theorem hostRead_ca (z : Size) {b n : Nat} (hb : b < 4) (ha : b % z.bytes = 0) (s : State)
    (hn : (s.chan s.regs.mslc).ca % 65536 / 256 ^ b % 256 ^ z.bytes = n) :
    hostRead z (0x2814 + b) s = .next { s with readData := BitVec.ofNat 32 n } := by
  have hal : (0x2814 + b) % z.bytes = 0 := aligned_slotByte rfl ha
  have hslot := aligned_in_slot hal
  have hkeeps : statusClears z (0x2814 + b) = false :=
    Bool.eq_false_of_not_eq_true fun h => by
      have := (statusClears_iff _ _).1 h
      omega
  have hbytes : s.readBytes (0x2814 + b) z.bytes = BitVec.ofNat 32 n := by
    rw [← hn]
    refine State.readBytes_eq_ofNat (Size.bytes_le z) fun i hi => ?_
    rw [Nat.add_assoc, s.readByte_ca (by omega), Nat.pow_add, Nat.div_div_eq_div_mul]
  rw [hostRead_next s hal ((mapped_iff _).2 (by omega)), State.statusClear_of_not hkeeps, hbytes]

/-- Settles O49: a play-address READ returns the bytes of CA[15:0] from the one at its offset on. -/
theorem playAddressReadsHaveNoSideEffect : Obligations.PlayAddressReadsHaveNoSideEffect := by
  intro s c hc ca
  obtain rfl : c = s.regs.mslc := BitVec.eq_of_toNat_eq (hc.trans s.regs.mslc_toNat.symm)
  have hlt : ca < 65536 := Nat.mod_lt _ (by decide)
  refine ⟨hostRead_ca .b2 (b := 0) (by decide) (by decide) s ?_, hostRead_ca .b4 (b := 0) (by decide) (by decide) s ?_,
    hostRead_ca .b1 (b := 0) (by decide) (by decide) s ?_, hostRead_ca .b1 (b := 1) (by decide) (by decide) s ?_,
    hostRead_ca .b1 (b := 2) (by decide) (by decide) s ?_, hostRead_ca .b1 (b := 3) (by decide) (by decide) s ?_,
    hostRead_ca .b2 (b := 2) (by decide) (by decide) s ?_⟩
  all_goals
    change ca / _ % _ = _
    simp only [Size.bytes, Nat.reducePow]
    omega

/-- A WRITE that answers a next state is aligned and mapped. -/
theorem access_of_hostWrite {z : Size} {a : Nat} {d : Word} {s t : State} (h : hostWrite z a d s = .next t) :
    a % z.bytes = 0 ∧ mapped a = true := by
  rcases hostWrite_cases z a d s with ⟨-, e⟩ | ⟨-, -, e⟩ | ⟨ha, hm, -⟩
  · rw [e] at h
    cases h
  · rw [e] at h
    cases h
  · exact ⟨ha, hm⟩

/-- Settles O50: the READ returns the stored bytes, and those are the ones that the WRITE has left. -/
theorem writeThenReadBack : Obligations.WriteThenReadBack := by
  intro z a d s t hw hro
  obtain ⟨ha, hm⟩ := access_of_hostWrite hw
  have hmap := (mapped_iff _).1 hm
  have hslot := aligned_in_slot ha
  obtain ⟨t', hw', hbytes, -⟩ := genericWriteStoresItsBytes z a d s ha (by omega)
  obtain rfl : t = t' := Host.Outcome.next.inj (hw.symm.trans hw')
  obtain ⟨v, hr, hv⟩ := genericReadReturnsAndClears z a t ha (by omega)
  rw [if_neg (by omega)] at hr
  refine ⟨v, hr, fun i hi => ?_⟩
  have hi4 := hi.trans_le (Size.bytes_le z)
  rw [hv i hi4 (by omega)]
  by_cases hlow : (a.toNat + i) % 4 < 2
  · rw [if_pos ⟨hi, hlow⟩, if_pos hlow, hbytes, if_pos (by omega), Nat.add_sub_cancel_left]
  · rw [if_neg fun h => hlow h.2, if_neg hlow]

end Sys2Proof.Machine

/-! Family 45_register_interface.md: the step with no operation issued, and the three operations. -/

namespace Sys2Proof.Machine

theorem State.configRefusal_eq_none {s : State} (h : s.cfg.hackMix = false) : s.configRefusal = none := by
  rw [State.configRefusal, h]
  rfl

/-- With nothing issued the block waits, unchanged (45_register_interface.md R305). -/
theorem step_of_empty {s : State} (hc : s.cfg.hackMix = false) (hq : s.inbox = []) : step s = .next s := by
  simp only [step, State.configRefusal_eq_none hc, hq]

/-- Settles O7: the configuration is not refused, and the queue is empty. -/
theorem idleStepChangesNothing : Obligations.IdleStepChangesNothing := fun _ => step_of_empty

/-- A request that is not admitted is refused, whatever its bytes (45_register_interface.md R290). -/
theorem step_of_not_admitted {s : State} {f : WordFormat} {bs : List Byte} {inp : Inputs} {rest : List Request}
    (hc : s.cfg.hackMix = false) (ha : ¬ s.admits f = true) (hq : s.inbox = .op f bs inp :: rest) :
    step s = .refused .notHostOperation := by
  simp only [step, State.configRefusal_eq_none hc, hq, if_neg ha, refuse]

/-- A host operation's word that is performed does what TICK, the generic READ or the generic WRITE does: the kind codes and size
codes that are none of these are refused (45_register_interface.md R290, R302). -/
theorem exec_decodeHostOp_next {w : Nat} {s t : State} (h : exec (decodeHostOp w) s = .next t) :
    decodeHostOp w = .tick ∨ (∃ z a, exec (decodeHostOp w) s = exec (.read z a) s) ∨
    ∃ z a d, exec (decodeHostOp w) s = exec (.write z a d) s := by
  have ha : bitsAt w 32 16 < 65536 := bitsAt_lt w 32 16
  have hoff : (BitVec.ofNat 16 (bitsAt w 32 16)).toNat = bitsAt w 32 16 := by
    rw [BitVec.toNat_ofNat, Nat.mod_eq_of_lt ha]
  unfold decodeHostOp at h ⊢
  split at h
  · exact .inl rfl
  · split at h
    · exact nomatch h
    · next z _ =>
      exact .inr (.inl ⟨z, BitVec.ofNat 16 (bitsAt w 32 16), by rw [exec_decodeRead z ha, exec_read, hoff]⟩)
  · split at h
    · exact nomatch h
    · next z _ =>
      exact .inr (.inr ⟨z, BitVec.ofNat 16 (bitsAt w 32 16), BitVec.ofNat 32 w, by
        rw [exec_decodeWrite z ha, exec_write, hoff]⟩)
  · exact nomatch h

/-- Settles O60, by what a step can do: without `bench` a performed request is a host operation's word. -/
theorem stepsAreTheThreeOperations : Obligations.StepsAreTheThreeOperations := by
  refine ⟨rfl, fun s t hb hstep => ?_, fun s f bs inp rest hb hc hf hq => step_of_not_admitted hc ?_ hq⟩
  · obtain ⟨-, ⟨hq, rfl⟩ | ⟨a, v, rest, hq, -, rfl⟩ | ⟨f, bs, inp, rest, i, hq, ha, hd, hx⟩⟩ := step_next_cases hstep
    · exact ⟨hb, .inl ⟨hq, rfl⟩⟩
    · exact ⟨hb, .inr (.inl ⟨a, v, rest, hq, rfl⟩)⟩
    · obtain ⟨-, hbench, -⟩ := exec_keeps_settings hx
      obtain rfl : f = .hostop52 := ((s.admits_iff f).1 ha).resolve_left (by simp [hb])
      obtain ⟨-, -, rfl⟩ := (decode_eq_ok_iff _ bs i).1 hd
      exact ⟨hbench.trans hb, .inr (.inr ⟨bs, inp, rest, _, hq, hd, hx, exec_decodeHostOp_next hx⟩)⟩
  · rw [State.admits_iff, hb]
    exact fun h => h.elim (nomatch ·) hf

end Sys2Proof.Machine

/-! Family other: the host's byte of wave memory, and what no instruction writes. -/

namespace Sys2Proof.Machine

variable {s t : State}

/-- A host write of wave memory is the next request: the step performs it whole (20_memory.md R62, R69). -/
theorem step_of_poke {a : Nat} {v : Byte} {rest : List Request} (hc : s.cfg.hackMix = false)
    (hq : s.inbox = .poke a v :: rest) : step s = s.pokeWave a v rest := by
  simp only [step, State.configRefusal_eq_none hc, hq]

theorem State.pokeWave_of_lt {a : Nat} (h : a < aramSize) (s : State) (v : Byte) (rest : List Request) :
    s.pokeWave a v rest = .next { s with inbox := rest, wave := s.wave.write a v } := if_pos h

theorem State.pokeWave_of_le {a : Nat} (h : aramSize ≤ a) (s : State) (v : Byte) (rest : List Request) :
    s.pokeWave a v rest = .refused .waveOutOfRange := if_neg (Nat.not_lt_of_le h)

/-- Settles O9: the request is a host write, and a read after a write gives the byte written at its address alone. -/
theorem hostWaveWriteIsSeenAtOnce : Obligations.HostWaveWriteIsSeenAtOnce := by
  intro s a v rest hc hq
  rw [step_of_poke hc hq]
  exact ⟨fun ha => ⟨s.wave.write a v, State.pokeWave_of_lt ha s v rest, fun b => s.wave.read_write a b v⟩,
    fun ha => State.pokeWave_of_le ha s v rest⟩

/-- A WRITE stores in the register space and keys channels; it does not reach wave memory (45_register_interface.md R291 to
R293). -/
theorem hostWrite_keeps_wave {z : Size} {a : Nat} {d : Word} (h : hostWrite z a d s = .next t) : t.wave = s.wave := by
  obtain ⟨ha, hm⟩ := access_of_hostWrite h
  rw [hostWrite_next d s ha hm] at h
  cases h
  exact (State.sideEffects_frame _ z a d).1

@[simp] theorem State.wave_aegUnit (s : State) (st : EgState) : (s.aegUnit st).wave = s.wave := by
  unfold State.aegUnit
  dsimp only
  split <;> rfl

/-- Settles O13, by what an instruction can do: a READ and a WRITE leave wave memory in their frame, and every other row writes
channels only, TICK the frame beside them. -/
theorem blockNeverWritesWaveMemory : Obligations.BlockNeverWritesWaveMemory := by
  intro i s t hx
  rcases exec_next_cases i s t hx with
    ⟨c, rfl⟩ | rfl | ⟨z, a, hr⟩ | ⟨z, a, d, hw, -⟩ | ⟨st, rfl⟩ | ⟨w, rfl⟩ | ⟨ch, rfl, -⟩
  · rfl
  · exact s.wave_mixTick
  · obtain ⟨-, hwave, -⟩ := hostRead_frame hr
    exact hwave
  · exact hostWrite_keeps_wave hw
  · exact s.wave_aegUnit st
  · rfl
  · rfl

end Sys2Proof.Machine

/-! Family other: the pitch step. -/

namespace Sys2Proof.Machine

/-- FNS has ten bits, so that setting bit 10 above it adds 1024 (41_stream.md R150). -/
theorem or_1024_fns (fns : BitVec 10) : 1024 ||| fns.toNat = 1024 + fns.toNat :=
  (Nat.two_pow_add_eq_or_of_lt fns.isLt 1).symm

theorem Lane.updateRate_of_lt {ln : Lane} (h : ln.oct.toNat < 8) :
    ln.updateRate = (1024 + ln.fns.toNat) * 2 ^ ln.oct.toNat := by
  rw [Lane.updateRate, or_1024_fns, if_pos h, Nat.shiftLeft_eq]

theorem Lane.updateRate_of_le {ln : Lane} (h : 8 ≤ ln.oct.toNat) :
    ln.updateRate = (1024 + ln.fns.toNat) / 2 ^ (16 - ln.oct.toNat) := by
  rw [Lane.updateRate, or_1024_fns, if_neg (Nat.not_lt_of_le h), Nat.shiftRight_eq_div_pow]

/-- The step is least at OCT 8 (an octave of -8) with FNS 0, greatest at OCT 7 with FNS 1023 (41_stream.md R150). -/
theorem Lane.updateRate_range (ln : Lane) : 4 ≤ ln.updateRate ∧ ln.updateRate ≤ 262016 := by
  have hfns : 1024 + ln.fns.toNat ≤ 2047 := by have := ln.fns.isLt; omega
  have hbase : 1024 ≤ 1024 + ln.fns.toNat := Nat.le_add_right _ _
  rcases Nat.lt_or_ge ln.oct.toNat 8 with h | h
  · rw [Lane.updateRate_of_lt h]
    have hpow : 2 ^ ln.oct.toNat ≤ 2 ^ 7 := Nat.pow_le_pow_right (by decide) (by omega)
    have hpos : 1 ≤ 2 ^ ln.oct.toNat := Nat.one_le_two_pow
    exact ⟨(by decide : 4 ≤ 1024 * 1).trans (Nat.mul_le_mul hbase hpos), Nat.mul_le_mul hfns hpow⟩
  · rw [Lane.updateRate_of_le h]
    have hpow : 2 ^ (16 - ln.oct.toNat) ≤ 2 ^ 8 := Nat.pow_le_pow_right (by decide) (by omega)
    exact ⟨Nat.div_le_div hbase hpow (Nat.two_pow_pos _).ne',
      (Nat.div_le_self _ _).trans (hfns.trans (by decide))⟩

/-- Settles O21: the shifts of R150 as a product and a floored quotient; the greatest step with the greatest fraction stays below
257 samples. -/
theorem pitchStepLaw : Obligations.PitchStepLaw := by
  intro ln
  obtain ⟨hlo, hhi⟩ := ln.updateRate_range
  refine ⟨Lane.updateRate_of_lt, Lane.updateRate_of_le, hlo, hhi, fun frac => ?_⟩
  have hfrac := frac.isLt
  omega

end Sys2Proof.Machine

/-! Family other: the muted output. -/

namespace Sys2Proof.Machine

/-- MVOL is the low four bits of byte 0x2800 (30_encoding.md R99). -/
theorem Memory.mvol_toNat (m : Memory) : m.mvol.toNat = (m.read 0x2800).toNat % 16 := by
  rw [Memory.mvol, regField_half]
  omega

/-- Master volume 0 has the multiplier 0 (44_channel_mix.md R253, R267). -/
theorem sideOut_of_mvol_zero {regs : Memory} (h : regs.mvol = 0) (v : Int) : sideOut regs v = 0 := by
  have hmul : mvolLut regs.mvol = 0 := by rw [h]; rfl
  rw [sideOut_eq, hmul]
  simp

/-- Settles O53: each side of a TICK's frame goes through the output stage, which mutes it. -/
theorem muteCodeSilencesTheOutput : Obligations.MuteCodeSilencesTheOutput := by
  intro s hbyte
  have hmvol : s.regs.mvol = 0 := BitVec.eq_of_toNat_eq (s.regs.mvol_toNat.trans hbyte)
  obtain ⟨hl, hr, -⟩ := s.frame_mixTick_eq
  exact ⟨s.mixTick, exec_tick s, hl.trans (sideOut_of_mvol_zero hmvol _), hr.trans (sideOut_of_mvol_zero hmvol _)⟩

end Sys2Proof.Machine

/-! Family other: what the host sees right after reset (70_reset_and_hazards.md R362). -/

namespace Sys2Proof.Machine

/-- No channel has looped at reset, so a clearing READ finds nothing to clear. -/
theorem State.statusClear_reset (z : Size) (a : Nat) : State.reset.statusClear z a = State.reset := by
  have hkeep : ∀ c, State.reset.setChan c { State.reset.chan c with looped := false } = State.reset := fun c => by
    have hch : { State.reset.chan c with looped := false } = State.reset.chan c := by rw [State.chan_reset]; rfl
    rw [hch, State.setChan_chan]
  unfold State.statusClear
  split
  · exact hkeep _
  · rfl

/-- Every byte but those of the status value reads 0 at reset, those of the play address included. -/
theorem State.readByte_reset {o : Nat} (h : ¬(0x2810 ≤ o ∧ o ≤ 0x2813)) : State.reset.readByte o = 0 := by
  by_cases hca : 0x2814 ≤ o ∧ o < 0x2818
  · obtain ⟨i, rfl⟩ := Nat.exists_eq_add_of_le hca.1
    rw [State.readByte_ca _ (by omega), State.chan_reset]
    simp [Channel.reset]
  · rw [State.readByte_of_not_readOnly _ (by omega), State.regByte_reset, ite_self]

/-- The status value at reset: not looped, in Release at V = 1023. -/
theorem Channel.statusValue_reset : Channel.reset.statusValue.toNat = 0x63FF := rfl

theorem exec_read_reset_zero {z : Size} {a : Half} (ha : a.toNat % z.bytes = 0) (hm : mapped a.toNat = true)
    (hst : ¬(0x2810 ≤ a.toNat ∧ a.toNat ≤ 0x2813)) :
    exec (.read z a) State.reset = .next { State.reset with readData := 0 } := by
  have hslot := aligned_in_slot ha
  have hzero : State.reset.readBytes a.toNat z.bytes = BitVec.ofNat 32 (0 % 256 ^ z.bytes) :=
    State.readBytes_eq_ofNat (Size.bytes_le z) fun i hi => by
      rw [State.readByte_reset (by omega), Nat.zero_div]
      rfl
  rw [exec_read, hostRead_next _ ha hm, State.statusClear_reset, hzero, Nat.zero_mod]
  rfl

theorem hostRead_status_reset {z : Size} {b : Nat} (hb : b < 4) (ha : b % z.bytes = 0) :
    hostRead z (0x2810 + b) State.reset =
      .next { State.reset with readData := BitVec.ofNat 32 (0x63FF / 256 ^ b % 256 ^ z.bytes) } := by
  rw [hostRead_status hb ha, State.statusClear_reset, State.chan_reset, Channel.statusValue_reset]

theorem Memory.efsdl_nil (k : Nat) : Memory.efsdl [] k = 0 := by
  apply BitVec.eq_of_toNat_eq
  rw [Memory.efsdl, regField_half, Memory.read_nil, Memory.read_nil]
  rfl

/-- At reset every channel is disabled and both CD send levels are 0, so nothing reaches the sums of a TICK. -/
theorem tick_reset_silent (inp : Inputs) :
    ∃ t, exec .tick { State.reset with inp := inp } = .next t ∧ t.frame = Frame.zero := by
  refine silentEnvelopesGiveSilence _ (fun c he => ?_) (.inr ⟨Memory.efsdl_nil 16, Memory.efsdl_nil 17⟩)
  have hoff : (State.reset.chan c).enabled = false := by rw [State.chan_reset]; rfl
  exact absurd he (Bool.eq_false_iff.1 hoff)

/-- Settles O16: a TICK is silent, a status READ gives its bytes of the value at reset, and any other READ gives zeros. -/
theorem whatAHostSeesRightAfterReset : Obligations.WhatAHostSeesRightAfterReset := by
  refine ⟨tick_reset_silent, fun z a ha hmap hst => exec_read_reset_zero ha ((mapped_iff _).2 (by omega)) hst,
    fun z a ha hlo hhi => ?_, hostRead_status_reset (z := .b2) (b := 0) (by decide) rfl⟩
  obtain ⟨b, hb⟩ := Nat.exists_eq_add_of_le hlo
  have hal : b % z.bytes = 0 := by cases z <;> simp only [Size.bytes] at ha ⊢ <;> omega
  rw [exec_read, hb, hostRead_status_reset (by omega) hal, Nat.add_sub_cancel_left]

end Sys2Proof.Machine

/-! Family other: the envelope rows that are not selected, and the tables. -/

namespace Sys2Proof.Machine

theorem State.aegUnit_not_selected {s : State} {st : EgState}
    (h : (s.chan s.inp.channel).enabled = false ∨ (s.chan s.inp.channel).aegState ≠ st) : s.aegUnit st = s := by
  refine if_neg fun ⟨he, hs⟩ => ?_
  rcases h with hoff | hother
  · exact absurd he (Bool.eq_false_iff.1 hoff)
  · exact hother hs

/-- Settles O28: each of the four rows is the envelope unit of its state. -/
theorem envelopeRowOfAnotherStateDoesNothing : Obligations.EnvelopeRowOfAnotherStateDoesNothing := by
  intro s row hrow h
  have hunit : exec row.1 s = .next (s.aegUnit row.2) := by
    simp only [List.mem_cons, List.not_mem_nil, or_false] at hrow
    rcases hrow with rfl | rfl | rfl | rfl <;> rfl
  rw [hunit, State.aegUnit_not_selected h]

/-- Settles O30: the 64 entries of each table, computed from its durations. -/
theorem stepTablesFollowTheMillisecondTables : Obligations.StepTablesFollowTheMillisecondTables := by
  intro p hp
  simp only [List.mem_cons, List.not_mem_nil, or_false] at hp
  rcases hp with rfl | rfl <;> exact ⟨rfl, rfl⟩

/-- Settles O34: the formula of R220 computed for the 32 codes. -/
theorem lfoStartFormulaAndValues : Obligations.LfoStartFormulaAndValues := by
  unfold Obligations.LfoStartFormulaAndValues
  decide

/-- `v` is the floor of 32768 / 2^(i/16), said without a root (44_channel_mix.md R252). -/
abbrev FlooredAttenuation (i v : Nat) : Prop := v ^ 16 * 2 ^ i ≤ 2 ^ 240 ∧ 2 ^ 240 < (v + 1) ^ 16 * 2 ^ i

/-- Sixteen entries on, the attenuated value is half of what it was, and the floor of a half is the half of the floor. -/
theorem FlooredAttenuation.half {i v : Nat} (h : FlooredAttenuation i v) : FlooredAttenuation (i + 16) (v / 2) := by
  obtain ⟨hle, hlt⟩ := h
  have double : ∀ x, x ^ 16 * 2 ^ (i + 16) = (2 * x) ^ 16 * 2 ^ i := fun x => by ring
  constructor
  · calc (v / 2) ^ 16 * 2 ^ (i + 16) = (2 * (v / 2)) ^ 16 * 2 ^ i := double _
      _ ≤ v ^ 16 * 2 ^ i := by gcongr; omega
      _ ≤ 2 ^ 240 := hle
  · calc 2 ^ 240 < (v + 1) ^ 16 * 2 ^ i := hlt
      _ ≤ (2 * (v / 2 + 1)) ^ 16 * 2 ^ i := by gcongr; omega
      _ = (v / 2 + 1) ^ 16 * 2 ^ (i + 16) := (double _).symm

/-- Each row of the table is the half of the row above it. -/
theorem drop_attRows : attRows.drop 16 = (attRows.take 240).map (· / 2) := by rfl

theorem attLut_add_sixteen {i : Nat} (h : i < 240) : attLut (i + 16) = attLut i / 2 := by
  have hrow := congrArg (·[i]?) drop_attRows
  simp only [List.getElem?_drop, List.getElem?_map, List.getElem?_take_of_lt h] at hrow
  have hi : i < attRows.length := by rw [length_attRows]; omega
  rw [attLut, attLut, List.getD_eq_getElem?_getD, List.getD_eq_getElem?_getD, Nat.add_comm, hrow,
    List.getElem?_eq_getElem hi]
  rfl

/-- The first row of the table. -/
theorem flooredAttenuation_firstRow : ∀ i < 16, FlooredAttenuation i (attLut i) := by decide

theorem flooredAttenuation_attLut {i : Nat} (h : i < 255) : FlooredAttenuation i (attLut i) := by
  induction i using Nat.strong_induction_on with
  | _ i ih =>
    rcases Nat.lt_or_ge i 16 with hfirst | hlater
    · exact flooredAttenuation_firstRow i hfirst
    · obtain ⟨j, rfl⟩ := Nat.exists_eq_add_of_le' hlater
      rw [attLut_add_sixteen (by omega)]
      exact (ih j (by omega) (by omega)).half

/-- Settles O56: the first row by computing it, each later one from the row above, and the silence of the tail. -/
theorem attenuationTableIsTheFlooredPower : Obligations.AttenuationTableIsTheFlooredPower :=
  ⟨fun _ => flooredAttenuation_attLut, fun _ => attLut_of_le⟩

end Sys2Proof.Machine
